-- ==== Sys2Proof/Word.lean ====
section
/-! DEFINITION. The word types of DWU: bytes, limbs, operand registers, command words, and the two
names that parameterise the helpers (a wide-integer width, a scaled type). -/

namespace Sys2Proof

/-- One byte of the register window (20_memory.md R28). -/
abbrev Byte := BitVec 8

/-- One 64-bit limb (00_scope.md R5 `LIMB_BITS`); also the datum of an 8-byte access (R30). -/
abbrev Limb := BitVec 64

/-- The content of an operand or result register: 192 bits, three limbs (10_state.md R10, R11). -/
abbrev Wide := BitVec 192

/-- The word written to `CMD` (30_encoding.md R45). -/
abbrev CmdWord := BitVec 64

/-- `W`: the width of a Wide Integer Core command (30_encoding.md R46). -/
inductive Width where
  | w192
  | w128
deriving DecidableEq, Repr

/-- `T`: the scaled type of a Scaled Value command (00_scope.md R7): `d` Decimal, `r` Rate. -/
inductive STy where
  | d
  | r
deriving DecidableEq, Repr

end Sys2Proof
end

