-- ==== Sys2Proof/Config.lean ====
section
/-! DEFINITION. The open parameters of DWU-1 (00_scope.md R6): constants without a body, so that
nothing can be proved of their values beyond what R6 says of them. -/

namespace Sys2Proof.Config

/-- Which multiple of 128 the window's base is. Free: R6 leaves `BASE` open (log 1). -/
opaque baseIndex : Nat

/-- `BASE`: "a byte address, multiple of 128" (00_scope.md R6). -/
def base : Nat := 128 * baseIndex

/-- The free bound on latency (00_scope.md R6, 70_reset_and_hazards.md R163; log 7). -/
opaque latencySpread : Nat

/-- The free part of the latency of a command word on two operands (log 7). -/
opaque latencyChoice : CmdWord → Wide → Wide → Nat

/-- `LAT(op, a, b)`: "a positive integer, bounded" (00_scope.md R6). No step reads it: "the machine
models no time" (70_reset_and_hazards.md R163). -/
def latency (op : CmdWord) (a b : Wide) : Nat := 1 + latencyChoice op a b % (latencySpread + 1)

end Sys2Proof.Config
end

