-- ==== Sys2Proof/Syntax.lean ====
section
/-! DEFINITION. The 34 commands of 30_encoding.md R47, one constructor per row of the opcode table,
in the table's order. A command has no operand field (R45, R48): its operands are always `OPA` and
`OPB`, its destination `RES`. -/

namespace Sys2Proof

/-- A DWU command (30_encoding.md R47). -/
inductive Instr where
  | wadd192   -- R70
  | wsub192   -- R72
  | wmul192   -- R74
  | wdiv192   -- R76
  | wpow192   -- R78
  | wshl192   -- R80
  | wshr192   -- R82
  | wcmp192   -- R84
  | saddD     -- R100
  | ssubD     -- R102
  | smulD     -- R104
  | sdivD     -- R106
  | spowD     -- R108
  | sfromintD -- R115
  | stofloorD -- R117
  | stoceilD  -- R119
  | scvtD2R   -- R121
  | wadd128   -- R71
  | wsub128   -- R73
  | wmul128   -- R75
  | wdiv128   -- R77
  | wpow128   -- R79
  | wshl128   -- R81
  | wshr128   -- R83
  | wcmp128   -- R85
  | saddR     -- R101
  | ssubR     -- R103
  | smulR     -- R105
  | sdivR     -- R107
  | spowR     -- R109
  | sfromintR -- R116
  | stofloorR -- R118
  | stoceilR  -- R120
  | scvtR2D   -- R122
deriving DecidableEq, Repr

end Sys2Proof
end

