-- ==== Sys2Proof/WellFormed.lean ====
section
/-! DEFINITION. Well-formedness. A command has no operand field, so every `Instr` is well formed
(30_encoding.md R48). What can be ill formed on this hardware is a host access: its size, its
alignment, its offset, its direction (20_memory.md R30, R31). The lists below are written from R31
alone; that the port accepts exactly these accesses is a statement about `Machine/Bus.lean`. -/

namespace Sys2Proof

/-- Every command is well formed: no immediates, no register fields (30_encoding.md R45, R48). -/
def Instr.wellFormed (_ : Instr) : Bool := true

/-- The offsets at which a read is accepted (20_memory.md R31): `OPA0` to `OPA2`, `OPB0` to `OPB2`,
`RES0` to `RES2`, `STATUS`, `ID`. -/
def readableOffsets : List Int :=
  [0x00, 0x08, 0x10, 0x20, 0x28, 0x30, 0x40, 0x48, 0x50, 0x68, 0x70]

/-- The offsets at which a write is accepted (20_memory.md R31): `OPA0` to `OPA2`, `OPB0` to `OPB2`,
`CMD`. -/
def writableOffsets : List Int :=
  [0x00, 0x08, 0x10, 0x20, 0x28, 0x30, 0x60]

/-- A read of `size` bytes at `offset` that the window accepts (20_memory.md R30, R31). -/
def readWellFormed (offset : Int) (size : Nat) : Bool :=
  size == 8 && offset % 8 == 0 && readableOffsets.contains offset

/-- A write of `size` bytes at `offset` that the window accepts (20_memory.md R30, R31). -/
def writeWellFormed (offset : Int) (size : Nat) : Bool :=
  size == 8 && offset % 8 == 0 && writableOffsets.contains offset

end Sys2Proof
end

