-- ==== Sys2Proof/Decode.lean ====
section
/-! DEFINITION. The decoder of 30_encoding.md R55, total on every 64-bit word and every byte list,
rejecting by name; and after it the encoder of R47. The names of the rejections are the model's:
the hardware raises `IllegalCommand` for all of them alike (R49, R50; log 14). -/

namespace Sys2Proof

/-- Why a word is no command (30_encoding.md R49). -/
inductive Illegal where
  /-- `cmd[63:8] != 0`. -/
  | highBits
  /-- `cmd[7:6] != 0`. -/
  | opcodeTopBits
  /-- `CLS = 0` and `FN > 7`. -/
  | wideFunction
  /-- `CLS = 1` and `FN > 8`. -/
  | scaledFunction
  /-- A byte list that is not the eight bytes of one write (30_encoding.md R51): no access of the
  machine gives one. -/
  | wrongLength
deriving DecidableEq, Repr

/-- `CLS = 0`: the Wide Integer Core commands by `T` and `FN` (30_encoding.md R46, R47). -/
def decodeWide (t : Bool) (fn : Nat) : Except Illegal Instr :=
  match t, fn with
  | false, 0 => .ok .wadd192
  | false, 1 => .ok .wsub192
  | false, 2 => .ok .wmul192
  | false, 3 => .ok .wdiv192
  | false, 4 => .ok .wpow192
  | false, 5 => .ok .wshl192
  | false, 6 => .ok .wshr192
  | false, 7 => .ok .wcmp192
  | true, 0 => .ok .wadd128
  | true, 1 => .ok .wsub128
  | true, 2 => .ok .wmul128
  | true, 3 => .ok .wdiv128
  | true, 4 => .ok .wpow128
  | true, 5 => .ok .wshl128
  | true, 6 => .ok .wshr128
  | true, 7 => .ok .wcmp128
  | _, _ => .error .wideFunction

/-- `CLS = 1`: the Scaled Value commands by `T` and `FN`; for `FN = 8` `T` names the source type
(30_encoding.md R46, R47). -/
def decodeScaled (t : Bool) (fn : Nat) : Except Illegal Instr :=
  match t, fn with
  | false, 0 => .ok .saddD
  | false, 1 => .ok .ssubD
  | false, 2 => .ok .smulD
  | false, 3 => .ok .sdivD
  | false, 4 => .ok .spowD
  | false, 5 => .ok .sfromintD
  | false, 6 => .ok .stofloorD
  | false, 7 => .ok .stoceilD
  | false, 8 => .ok .scvtD2R
  | true, 0 => .ok .saddR
  | true, 1 => .ok .ssubR
  | true, 2 => .ok .smulR
  | true, 3 => .ok .sdivR
  | true, 4 => .ok .spowR
  | true, 5 => .ok .sfromintR
  | true, 6 => .ok .stofloorR
  | true, 7 => .ok .stoceilR
  | true, 8 => .ok .scvtR2D
  | _, _ => .error .scaledFunction

/-- The decoder: the tests of `Execute` in the order of 30_encoding.md R55. -/
def decode (cmd : CmdWord) : Except Illegal Instr :=
  if cmd.extractLsb' 8 56 ≠ 0 then .error .highBits
  else if cmd.extractLsb' 6 2 ≠ 0 then .error .opcodeTopBits
  else if cmd.getLsbD 4 then decodeScaled (cmd.getLsbD 5) (cmd.extractLsb' 0 4).toNat
  else decodeWide (cmd.getLsbD 5) (cmd.extractLsb' 0 4).toNat

/-- The eight bytes of a word in the window's order: byte `i` is bits `8*i + 7 : 8*i`
(20_memory.md R28). -/
def bytesOfWord (w : CmdWord) : List Byte := (List.range 8).map fun i => w.extractLsb' (8 * i) 8

/-- The value of a little-endian byte list: the sum of `byte_k * 256^k` (20_memory.md R29). -/
def valueOfBytes : List Byte → Nat
  | [] => 0
  | b :: bs => b.toNat + 256 * valueOfBytes bs

/-- The decoder on bytes: exactly the eight bytes of one write spell a command (30_encoding.md R51,
20_memory.md R28, R30). -/
def decodeBytes (bytes : List Byte) : Except Illegal Instr :=
  if bytes.length = 8 then decode (BitVec.ofNat 64 (valueOfBytes bytes)) else .error .wrongLength

/-- The opcode `cmd[7:0]` of each command (30_encoding.md R47, column OPC). -/
def opcode : Instr → BitVec 8
  | .wadd192 => 0x00
  | .wsub192 => 0x01
  | .wmul192 => 0x02
  | .wdiv192 => 0x03
  | .wpow192 => 0x04
  | .wshl192 => 0x05
  | .wshr192 => 0x06
  | .wcmp192 => 0x07
  | .wadd128 => 0x20
  | .wsub128 => 0x21
  | .wmul128 => 0x22
  | .wdiv128 => 0x23
  | .wpow128 => 0x24
  | .wshl128 => 0x25
  | .wshr128 => 0x26
  | .wcmp128 => 0x27
  | .saddD => 0x10
  | .ssubD => 0x11
  | .smulD => 0x12
  | .sdivD => 0x13
  | .spowD => 0x14
  | .sfromintD => 0x15
  | .stofloorD => 0x16
  | .stoceilD => 0x17
  | .scvtD2R => 0x18
  | .saddR => 0x30
  | .ssubR => 0x31
  | .smulR => 0x32
  | .sdivR => 0x33
  | .spowR => 0x34
  | .sfromintR => 0x35
  | .stofloorR => 0x36
  | .stoceilR => 0x37
  | .scvtR2D => 0x38

/-- The encoder: "the command word is `zext_64(OPC)`" (30_encoding.md R47). -/
def encode (i : Instr) : CmdWord := (opcode i).setWidth 64

/-- The instruction the decoder reads from a table row's word: its bits below `nbits`, laid out as
the eight bytes of a `CMD` write and decoded. -/
def decodeTableWord (nbits w : Nat) : Option Instr :=
  (decodeBytes (bytesOfWord (BitVec.ofNat 64 (w % 2 ^ nbits)))).toOption

end Sys2Proof
end

