-- ==== Sys2Proof/Machine/State.lean ====
section
/-! DEFINITION. The state of DWU: the tuple `(OPA, OPB, RES, STATUS.CODE)` that 10_state.md R19 calls
the whole state, and two fields of the model's own: what the host has sent and not yet been served
(log 2), and what the last access answered (log 3). Plain data throughout. -/

namespace Sys2Proof.Machine

/-- Why a step could stop, and why an access is refused. `Machine/Bus.lean` raises it for an access;
`step` records it as that access's answer and goes on (log 4), so no step ends in it. -/
inductive Fault where
  /-- The refusal of one access (20_memory.md R35). Raised by the port for every access that R30 and
  R31 do not accept. Safe: the refused access changes no register, as R35 says. -/
  | busError
deriving DecidableEq, Repr

/-- Why an instruction has no meaning. No arm of `exec` answers with it: all 34 commands have theirs. -/
inductive Refusal where
  /-- An instruction of the opcode table that has no meaning yet. Raised by nothing. Safe. -/
  | notModelled (mnemonic : String)
deriving DecidableEq, Repr

/-- The six errors a command can raise: `STATUS.CODE` values 1 to 6 (60_exceptions.md R135). -/
inductive Err where
  | overflow
  | underflow
  | divisionByZero
  | rangeError
  | formatError
  | illegalCommand
deriving DecidableEq, Repr

/-- The registers of the window (20_memory.md R26); `k` is the limb. -/
inductive WindowReg where
  | opa (k : Fin 3)
  | opb (k : Fin 3)
  | res (k : Fin 3)
  | cmd
  | status
  | id
deriving DecidableEq, Repr

/-- One access as DWU sees it: "the triple (read or write, offset, 64-bit data)" (30_encoding.md R52)
with the size in bytes, which decides whether it is accepted (20_memory.md R30; log 10). The offset
of an access is `addr - BASE` (R25), any integer. -/
inductive Access where
  | read (offset : Int) (size : Nat)
  | write (offset : Int) (size : Nat) (data : Limb)
deriving DecidableEq, Repr

/-- What reaches DWU from outside: an access, or the reset event (70_reset_and_hazards.md R155). -/
inductive Event where
  | access (a : Access)
  | reset
deriving DecidableEq, Repr

/-- What an access gave back to the host (20_memory.md R35): nothing has been performed yet, the
value read, a completed write, or the refusal. -/
inductive Answer where
  | idle
  | data (v : Limb)
  | done
  | refused (f : Fault)
deriving DecidableEq, Repr

/-- The machine. `opa`, `opb`, `res`, `code` are DWU's whole state (10_state.md R19); `pending` and
`answer` are the model's own (logs 2 and 3). -/
structure State where
  /-- `OPA` (10_state.md R10). -/
  opa : Wide
  /-- `OPB` (10_state.md R10). -/
  opb : Wide
  /-- `RES` (10_state.md R11). -/
  res : Wide
  /-- `STATUS.CODE`, `STATUS[2:0]` (10_state.md R14). -/
  code : BitVec 3
  /-- What the host has sent, oldest first (20_memory.md R38). The model's own (log 2). -/
  pending : List Event
  /-- What the last access answered. The model's own (log 3). -/
  answer : Answer
deriving DecidableEq, Repr

/-- The machine right after reset: every register at the value of 10_state.md R20; the model's own
fields at the values of logs 2 and 3. -/
def State.reset : State :=
  { opa := 0, opb := 0, res := 0, code := 0, pending := [], answer := .idle }

end Sys2Proof.Machine
end

