-- ==== Sys2Proof/Machine/Flags.lean ====
section
/-! DEFINITION. The status register and the identity register as the host reads them. DWU keeps no
carry, zero, sign or overflow flag between commands (10_state.md R14): the outcome code is its only
flag. -/

namespace Sys2Proof.Machine

/-- The code of each error (60_exceptions.md R135). `Ok` is code 0; code 7 is never written. -/
def Err.code : Err → BitVec 3
  | .overflow => 1
  | .underflow => 2
  | .divisionByZero => 3
  | .rangeError => 4
  | .formatError => 5
  | .illegalCommand => 6

/-- `STATUS` as read: `CODE` in bits 2:0, bits 63:3 hardwired to zero (10_state.md R14). -/
def statusWord (s : State) : Limb := s.code.setWidth 64

/-- `ID`: the constant of 10_state.md R16. -/
def idWord : Limb := 0x0000034044570001

end Sys2Proof.Machine
end

