-- ==== Sys2Proof/Machine/Operands.lean ====
section
/-! DEFINITION. The fixed parameters of DWU-1 (00_scope.md R5), the limbs of a register (R7, R10) and
the one operand form (30_encoding.md R48): the whole register, checked against the command's width. -/

namespace Sys2Proof.Machine

/-- `W` in bits (00_scope.md R5 `W_192`, `W_128`). -/
def widthBits : Width → Nat
  | .w192 => 192
  | .w128 => 128

/-- `L = W / 64`, the limbs of a value of width `W` (44_limb_algorithms.md). -/
def widthLimbs : Width → Nat
  | .w192 => 3
  | .w128 => 2

/-- `W_T`: the backing width of a scaled type (00_scope.md R7). -/
def backing : STy → Width
  | .d => .w192
  | .r => .w128

/-- `S_T`: the scale of a scaled type (00_scope.md R5 `S_D`, `S_R`). -/
def scale : STy → Nat
  | .d => 10 ^ 18
  | .r => 10 ^ 8

/-- `INTMAX_T`: the largest integer of a scaled type (00_scope.md R5; log 15). -/
def intMax : STy → Nat
  | .d => 2 ^ 64 - 1
  | .r => 255

/-- `MAXRAW_T`: the domain ceiling of a scaled type (00_scope.md R5). -/
def maxRaw (t : STy) : Nat := intMax t * scale t

/-- `BRIDGE`: the Rate to Decimal scale ratio (00_scope.md R5). -/
def bridge : Nat := 10 ^ 10

/-- `D2R_LIMIT`: the largest Decimal raw value convertible to Rate (00_scope.md R5). -/
def d2rLimit : Nat := 255 * 10 ^ 18

/-- `limb(v, k) = v[64*k+63 : 64*k]` (00_scope.md R7). -/
def limb (v : Wide) (k : Fin 3) : Limb := v.extractLsb' (64 * k.val) 64

/-- A register with limb `k` replaced and the other two kept (20_memory.md R34). -/
def setLimb (v : Wide) (k : Fin 3) (x : Limb) : Wide :=
  BitVec.ofNat 192 (v.toNat - (limb v k).toNat * 2 ^ (64 * k.val) + x.toNat * 2 ^ (64 * k.val))

/-- An operand of a command of width `w`: the whole register, and for width 128 `FormatError` when
it holds `2^128` or more (30_encoding.md R48, 60_exceptions.md R141). -/
def operand (w : Width) (v : Wide) : Except Err Nat :=
  if w = .w128 ∧ 2 ^ 128 ≤ v.toNat then .error .formatError else .ok v.toNat

end Sys2Proof.Machine
end

