-- ==== Sys2Proof/Machine/Ops.lean ====
section
/-! DEFINITION. The named operations every meaning is built from: the updates of the state, the two
ways a command ends (60_exceptions.md R143, R144), the frame of a one- and a two-operand command
(30_encoding.md R55), the squaring loop shared by `wpow` and `spow`, and the read and write of one
window register. -/

namespace Sys2Proof.Machine

/-- The one write a command makes: `RES` and `STATUS.CODE` together (10_state.md R11, R14). -/
def State.writeOutcome (s : State) (r : Wide) (c : BitVec 3) : State := { s with res := r, code := c }

/-- Success: `STATUS.CODE <- 0; RES <- zext_192(r)` (60_exceptions.md R144). -/
def State.succeed (s : State) (r : Nat) : State := s.writeOutcome (BitVec.ofNat 192 r) 0

/-- `raise <Status>`, DWU's taking of an exception: `STATUS.CODE <- code; RES <- 0`, and nothing else
exists to change (60_exceptions.md R143). There is no return from it (R145). -/
def State.raise (s : State) (e : Err) : State := s.writeOutcome 0 e.code

/-- How a command ends, by the outcome of its rule (30_encoding.md R55, last lines). -/
def State.finish (s : State) (outcome : Except Err Nat) : State :=
  match outcome with
  | .ok r => s.succeed r
  | .error e => s.raise e

/-- The accesses still to be served. -/
def State.setPending (s : State) (es : List Event) : State := { s with pending := es }

/-- What the access being performed answers. -/
def State.reply (s : State) (a : Answer) : State := { s with answer := a }

/-- A write to one limb of `OPA` (20_memory.md R34). -/
def State.writeOpa (s : State) (k : Fin 3) (v : Limb) : State := { s with opa := setLimb s.opa k v }

/-- A write to one limb of `OPB` (20_memory.md R34). -/
def State.writeOpb (s : State) (k : Fin 3) (v : Limb) : State := { s with opb := setLimb s.opb k v }

/-- The reset event: every register takes its reset value (70_reset_and_hazards.md R155). What the
host has still to send is the host's and stays (log 6). -/
def State.applyReset (s : State) : State := State.reset.setPending s.pending

/-- A two-operand command of width `w`: both operands read and checked, then its rule `f`
(30_encoding.md R55, 10_state.md R12). -/
def binaryCommand (w : Width) (f : Nat → Nat → Except Err Nat) (s : State) :
    Host.Outcome State Fault Refusal :=
  .next (s.finish (do
    let a ← operand w s.opa
    let b ← operand w s.opb
    f a b))

/-- A one-operand command of width `w`: `OPB` is not read, not even by the width check
(10_state.md R12). -/
def unaryCommand (w : Width) (f : Nat → Except Err Nat) (s : State) :
    Host.Outcome State Fault Refusal :=
  .next (s.finish (do
    let a ← operand w s.opa
    f a))

/-- The loop of 40_wide_integer.md R64 and 41_scaled_arith.md R95 with a bound on its rounds: the
accumulator is multiplied before the base is squared, and there is no squaring after the last bit of
the exponent. -/
def powLoop (mul : Nat → Nat → Except Err Nat) : Nat → Nat → Nat → Nat → Except Err Nat
  | 0, acc, _, _ => .ok acc
  | rounds + 1, acc, base, n =>
    if n = 0 then .ok acc else do
      let acc' ← (if n % 2 = 1 then mul acc base else .ok acc)
      if n / 2 = 0 then .ok acc' else do
        let base' ← mul base base
        powLoop mul rounds acc' base' (n / 2)

/-- The whole loop: one round for each bit of the exponent (44_limb_algorithms.md R134; log 16). -/
def powFrom (mul : Nat → Nat → Except Err Nat) (acc base n : Nat) : Except Err Nat :=
  powLoop mul (n.log2 + 1) acc base n

/-- What a read of a window register returns; `none` for `CMD`, which cannot be read
(20_memory.md R31, R33). -/
def readReg (s : State) : WindowReg → Option Limb
  | .opa k => some (limb s.opa k)
  | .opb k => some (limb s.opb k)
  | .res k => some (limb s.res k)
  | .cmd => none
  | .status => some (statusWord s)
  | .id => some idWord

/-- The register that stands at an offset of the window; `none` at the reserved offsets and between
registers (20_memory.md R26, R27). -/
def regAt : Nat → Option WindowReg
  | 0x00 => some (.opa 0)
  | 0x08 => some (.opa 1)
  | 0x10 => some (.opa 2)
  | 0x20 => some (.opb 0)
  | 0x28 => some (.opb 1)
  | 0x30 => some (.opb 2)
  | 0x40 => some (.res 0)
  | 0x48 => some (.res 1)
  | 0x50 => some (.res 2)
  | 0x60 => some .cmd
  | 0x68 => some .status
  | 0x70 => some .id
  | _ => none

/-- The register an access selects: the tests that open `MemRead` and `MemWrite`, and the size rule
(20_memory.md R30, R33, R34). `none` is a bus error (R35). -/
def selectReg (offset : Int) (size : Nat) : Option WindowReg :=
  if size ≠ 8 ∨ offset % 8 ≠ 0 ∨ offset < 0 ∨ 128 ≤ offset then none else regAt offset.toNat

end Sys2Proof.Machine
end

