-- ==== Sys2Proof/Machine/WideInteger.lean ====
section
/-! DEFINITION. The Wide Integer Core (40_wide_integer.md): the helpers R60 to R66 and the meanings of
its sixteen commands, R70 to R85. -/

namespace Sys2Proof.Machine

/-- `CheckedAdd(W, a, b)` (R60). -/
def checkedAdd (w : Width) (a b : Nat) : Except Err Nat :=
  if 2 ^ widthBits w ≤ a + b then .error .overflow else .ok (a + b)

/-- `CheckedSub(W, a, b)` (R61). -/
def checkedSub (a b : Nat) : Except Err Nat :=
  if a < b then .error .underflow else .ok (a - b)

/-- `CheckedMul(W, a, b)`, the test on the exact product (R62). -/
def checkedMul (w : Width) (a b : Nat) : Except Err Nat :=
  if 2 ^ widthBits w ≤ a * b then .error .overflow else .ok (a * b)

/-- `CheckedDiv(W, a, b)` (R63). -/
def checkedDiv (a b : Nat) : Except Err Nat :=
  if b = 0 then .error .divisionByZero else .ok (a / b)

/-- `CheckedPow(W, a, n)` (R64). -/
def checkedPow (w : Width) (a n : Nat) : Except Err Nat := powFrom (checkedMul w) 1 a n

/-- `Shl(W, a, n)` (R65). -/
def shl (w : Width) (a n : Nat) : Nat :=
  if widthBits w ≤ n then 0 else (a * 2 ^ n) % 2 ^ widthBits w

/-- `Shr(W, a, n)` (R65). -/
def shr (w : Width) (a n : Nat) : Nat :=
  if widthBits w ≤ n then 0 else a / 2 ^ n

/-- `Cmp(W, a, b)`: 0 less, 1 equal, 2 greater (R66). -/
def wideCmp (a b : Nat) : Nat :=
  if a < b then 0 else if a = b then 1 else 2

/-- `wadd.192` (R70). -/
def execWadd192 (s : State) : Host.Outcome State Fault Refusal :=
  binaryCommand .w192 (checkedAdd .w192) s

/-- `wadd.128` (R71). -/
def execWadd128 (s : State) : Host.Outcome State Fault Refusal :=
  binaryCommand .w128 (checkedAdd .w128) s

/-- `wsub.192` (R72). -/
def execWsub192 (s : State) : Host.Outcome State Fault Refusal := binaryCommand .w192 checkedSub s

/-- `wsub.128` (R73). -/
def execWsub128 (s : State) : Host.Outcome State Fault Refusal := binaryCommand .w128 checkedSub s

/-- `wmul.192` (R74). -/
def execWmul192 (s : State) : Host.Outcome State Fault Refusal :=
  binaryCommand .w192 (checkedMul .w192) s

/-- `wmul.128` (R75). -/
def execWmul128 (s : State) : Host.Outcome State Fault Refusal :=
  binaryCommand .w128 (checkedMul .w128) s

/-- `wdiv.192` (R76). -/
def execWdiv192 (s : State) : Host.Outcome State Fault Refusal := binaryCommand .w192 checkedDiv s

/-- `wdiv.128` (R77). -/
def execWdiv128 (s : State) : Host.Outcome State Fault Refusal := binaryCommand .w128 checkedDiv s

/-- `wpow.192` (R78): the exponent is the whole of `OPB`. -/
def execWpow192 (s : State) : Host.Outcome State Fault Refusal :=
  binaryCommand .w192 (checkedPow .w192) s

/-- `wpow.128` (R79): the exponent too is held to the width. -/
def execWpow128 (s : State) : Host.Outcome State Fault Refusal :=
  binaryCommand .w128 (checkedPow .w128) s

/-- `wshl.192` (R80). -/
def execWshl192 (s : State) : Host.Outcome State Fault Refusal :=
  binaryCommand .w192 (fun a n => .ok (shl .w192 a n)) s

/-- `wshl.128` (R81). -/
def execWshl128 (s : State) : Host.Outcome State Fault Refusal :=
  binaryCommand .w128 (fun a n => .ok (shl .w128 a n)) s

/-- `wshr.192` (R82). -/
def execWshr192 (s : State) : Host.Outcome State Fault Refusal :=
  binaryCommand .w192 (fun a n => .ok (shr .w192 a n)) s

/-- `wshr.128` (R83). -/
def execWshr128 (s : State) : Host.Outcome State Fault Refusal :=
  binaryCommand .w128 (fun a n => .ok (shr .w128 a n)) s

/-- `wcmp.192` (R84). -/
def execWcmp192 (s : State) : Host.Outcome State Fault Refusal :=
  binaryCommand .w192 (fun a b => .ok (wideCmp a b)) s

/-- `wcmp.128` (R85). -/
def execWcmp128 (s : State) : Host.Outcome State Fault Refusal :=
  binaryCommand .w128 (fun a b => .ok (wideCmp a b)) s

end Sys2Proof.Machine
end

