-- ==== Sys2Proof/Machine/ScaledArith.lean ====
section
/-! DEFINITION. Scaled Value arithmetic (41_scaled_arith.md): the helpers R90 to R95 and the meanings
of its ten commands, R100 to R109. Every division is the floor (R96). -/

namespace Sys2Proof.Machine

/-- `InDomain(T, v)`, the domain ceiling check on results (R90). -/
def inDomain (t : STy) (v : Nat) : Except Err Nat :=
  if maxRaw t < v then .error .overflow else .ok v

/-- `ScaledAdd(T, a, b)` (R91). -/
def scaledAdd (t : STy) (a b : Nat) : Except Err Nat := do
  let s ← checkedAdd (backing t) a b
  inDomain t s

/-- `ScaledSub(T, a, b)`: the `Underflow` test first (R92). -/
def scaledSub (t : STy) (a b : Nat) : Except Err Nat := do
  let d ← checkedSub a b
  inDomain t d

/-- `ScaledMul(T, a, b)`, the scaled-multiply engine: multiply, then divide by the scale (R93). -/
def scaledMul (t : STy) (a b : Nat) : Except Err Nat := do
  let p ← checkedMul (backing t) a b
  inDomain t (p / scale t)

/-- `ScaledDiv(T, a, b)`, the scaled-divide engine: the zero test, multiply by the scale, then divide
(R94). -/
def scaledDiv (t : STy) (a b : Nat) : Except Err Nat :=
  if b = 0 then .error .divisionByZero else do
    let p ← checkedMul (backing t) a (scale t)
    inDomain t (p / b)

/-- `ScaledPow(T, a, n)`: the squaring loop with a whole `ScaledMul` at each step (R95). -/
def scaledPow (t : STy) (a n : Nat) : Except Err Nat := powFrom (scaledMul t) (scale t) a n

/-- `sadd.d` (R100). -/
def execSaddD (s : State) : Host.Outcome State Fault Refusal := binaryCommand .w192 (scaledAdd .d) s

/-- `sadd.r` (R101). -/
def execSaddR (s : State) : Host.Outcome State Fault Refusal := binaryCommand .w128 (scaledAdd .r) s

/-- `ssub.d` (R102). -/
def execSsubD (s : State) : Host.Outcome State Fault Refusal := binaryCommand .w192 (scaledSub .d) s

/-- `ssub.r` (R103). -/
def execSsubR (s : State) : Host.Outcome State Fault Refusal := binaryCommand .w128 (scaledSub .r) s

/-- `smul.d` (R104). -/
def execSmulD (s : State) : Host.Outcome State Fault Refusal := binaryCommand .w192 (scaledMul .d) s

/-- `smul.r` (R105). -/
def execSmulR (s : State) : Host.Outcome State Fault Refusal := binaryCommand .w128 (scaledMul .r) s

/-- `sdiv.d` (R106). -/
def execSdivD (s : State) : Host.Outcome State Fault Refusal := binaryCommand .w192 (scaledDiv .d) s

/-- `sdiv.r` (R107). -/
def execSdivR (s : State) : Host.Outcome State Fault Refusal := binaryCommand .w128 (scaledDiv .r) s

/-- `spow.d` (R108): the exponent is the whole of `OPB`, a plain integer. -/
def execSpowD (s : State) : Host.Outcome State Fault Refusal := binaryCommand .w192 (scaledPow .d) s

/-- `spow.r` (R109). -/
def execSpowR (s : State) : Host.Outcome State Fault Refusal := binaryCommand .w128 (scaledPow .r) s

end Sys2Proof.Machine
end

