-- ==== Sys2Proof/Machine/Convert.lean ====
section
/-! DEFINITION. Scaled Value conversions (42_scaled_convert.md): the helpers R110 to R114 and the
meanings of its eight commands, R115 to R122. All read `OPA` only (10_state.md R12). -/

namespace Sys2Proof.Machine

/-- `FromInteger(T, n)` (R110). -/
def fromInteger (t : STy) (n : Nat) : Except Err Nat :=
  if intMax t < n then .error .overflow else .ok (n * scale t)

/-- `ToFloor(T, a)`: the whole quotient, never cut to the native integer (R111). -/
def toFloor (t : STy) (a : Nat) : Nat := a / scale t

/-- `ToCeil(T, a)`: the least integer not below `a / S_T` (R112). -/
def toCeil (t : STy) (a : Nat) : Nat :=
  if a % scale t = 0 then a / scale t else a / scale t + 1

/-- `RateToDecimal(a)` (R113). -/
def rateToDecimal (a : Nat) : Except Err Nat := do
  let p ← checkedMul .w192 a bridge
  inDomain .d p

/-- `DecimalToRate(a)`: the bound is inclusive (R114; 90_conflicts.md C2). -/
def decimalToRate (a : Nat) : Except Err Nat :=
  if d2rLimit < a then .error .rangeError else .ok (a / bridge)

/-- `sfromint.d` (R115). -/
def execSfromintD (s : State) : Host.Outcome State Fault Refusal := unaryCommand .w192 (fromInteger .d) s

/-- `sfromint.r` (R116). -/
def execSfromintR (s : State) : Host.Outcome State Fault Refusal := unaryCommand .w128 (fromInteger .r) s

/-- `stofloor.d` (R117). -/
def execStofloorD (s : State) : Host.Outcome State Fault Refusal :=
  unaryCommand .w192 (fun a => .ok (toFloor .d a)) s

/-- `stofloor.r` (R118). -/
def execStofloorR (s : State) : Host.Outcome State Fault Refusal :=
  unaryCommand .w128 (fun a => .ok (toFloor .r a)) s

/-- `stoceil.d` (R119). -/
def execStoceilD (s : State) : Host.Outcome State Fault Refusal :=
  unaryCommand .w192 (fun a => .ok (toCeil .d a)) s

/-- `stoceil.r` (R120). -/
def execStoceilR (s : State) : Host.Outcome State Fault Refusal :=
  unaryCommand .w128 (fun a => .ok (toCeil .r a)) s

/-- `scvt.d2r` (R121): the source is a 192-bit Decimal, so no width check applies. -/
def execScvtD2R (s : State) : Host.Outcome State Fault Refusal := unaryCommand .w192 decimalToRate s

/-- `scvt.r2d` (R122): the source is a 128-bit Rate. -/
def execScvtR2D (s : State) : Host.Outcome State Fault Refusal := unaryCommand .w128 rateToDecimal s

end Sys2Proof.Machine
end

