-- ==== Sys2Proof/Machine/Dispatch.lean ====
section
/-! DEFINITION. The dispatch of 30_encoding.md R55: one arm per command, in the opcode table's order. -/

namespace Sys2Proof.Machine

/-- Perform the rule of 30_encoding.md R47 for a decoded command. -/
def exec (i : Instr) (s : State) : Host.Outcome State Fault Refusal :=
  match i with
  | .wadd192 => Sys2Proof.Machine.execWadd192 s
  | .wsub192 => Sys2Proof.Machine.execWsub192 s
  | .wmul192 => Sys2Proof.Machine.execWmul192 s
  | .wdiv192 => Sys2Proof.Machine.execWdiv192 s
  | .wpow192 => Sys2Proof.Machine.execWpow192 s
  | .wshl192 => Sys2Proof.Machine.execWshl192 s
  | .wshr192 => Sys2Proof.Machine.execWshr192 s
  | .wcmp192 => Sys2Proof.Machine.execWcmp192 s
  | .saddD => Sys2Proof.Machine.execSaddD s
  | .ssubD => Sys2Proof.Machine.execSsubD s
  | .smulD => Sys2Proof.Machine.execSmulD s
  | .sdivD => Sys2Proof.Machine.execSdivD s
  | .spowD => Sys2Proof.Machine.execSpowD s
  | .sfromintD => Sys2Proof.Machine.execSfromintD s
  | .stofloorD => Sys2Proof.Machine.execStofloorD s
  | .stoceilD => Sys2Proof.Machine.execStoceilD s
  | .scvtD2R => Sys2Proof.Machine.execScvtD2R s
  | .wadd128 => Sys2Proof.Machine.execWadd128 s
  | .wsub128 => Sys2Proof.Machine.execWsub128 s
  | .wmul128 => Sys2Proof.Machine.execWmul128 s
  | .wdiv128 => Sys2Proof.Machine.execWdiv128 s
  | .wpow128 => Sys2Proof.Machine.execWpow128 s
  | .wshl128 => Sys2Proof.Machine.execWshl128 s
  | .wshr128 => Sys2Proof.Machine.execWshr128 s
  | .wcmp128 => Sys2Proof.Machine.execWcmp128 s
  | .saddR => Sys2Proof.Machine.execSaddR s
  | .ssubR => Sys2Proof.Machine.execSsubR s
  | .smulR => Sys2Proof.Machine.execSmulR s
  | .sdivR => Sys2Proof.Machine.execSdivR s
  | .spowR => Sys2Proof.Machine.execSpowR s
  | .sfromintR => Sys2Proof.Machine.execSfromintR s
  | .stofloorR => Sys2Proof.Machine.execStofloorR s
  | .stoceilR => Sys2Proof.Machine.execStoceilR s
  | .scvtR2D => Sys2Proof.Machine.execScvtR2D s

end Sys2Proof.Machine
end

