-- ==== Sys2Proof/Machine/Bus.lean ====
section
/-! DEFINITION. The port of DWU: `Execute` (30_encoding.md R55), the host's two accesses `MemRead` and
`MemWrite` (20_memory.md R33, R34), the refusal of an access (R35), the performing of one event, and
the byte view of the window (R28, R29). -/

namespace Sys2Proof.Machine

/-- `Execute(cmd)`: an illegal word raises `IllegalCommand` and no operand is looked at
(30_encoding.md R49, R55). -/
def execute (cmd : CmdWord) (s : State) : Host.Outcome State Fault Refusal :=
  match decode cmd with
  | .ok i => exec i s
  | .error _ => .next (s.raise .illegalCommand)

/-- A read of `size` bytes at an offset of the window: the value, or the bus error
(20_memory.md R30, R31, R33). It changes nothing (R32). -/
def portRead (offset : Int) (size : Nat) (s : State) : Except Fault Limb :=
  match (selectReg offset size).bind (readReg s) with
  | some v => .ok v
  | none => .error .busError

/-- What an accepted write to a register does: a limb of `OPA` or `OPB` is replaced, a write to `CMD`
executes a command; `none` for the registers that cannot be written (20_memory.md R31, R34). -/
def writeReg (s : State) (r : WindowReg) (v : Limb) : Option (Host.Outcome State Fault Refusal) :=
  match r with
  | .opa k => some (.next (s.writeOpa k v))
  | .opb k => some (.next (s.writeOpb k v))
  | .res _ => none
  | .cmd => some (execute v s)
  | .status => none
  | .id => none

/-- A write of `size` bytes at an offset of the window: what it does, or the bus error
(20_memory.md R30, R31, R34). -/
def portWrite (offset : Int) (size : Nat) (v : Limb) (s : State) :
    Except Fault (Host.Outcome State Fault Refusal) :=
  match (selectReg offset size).bind (fun r => writeReg s r v) with
  | some o => .ok o
  | none => .error .busError

/-- `MemRead(addr, n)` at a host address (20_memory.md R33): the offset is `addr - BASE` (R25). -/
def memRead (addr n : Nat) (s : State) : Except Fault Limb :=
  portRead ((addr : Int) - (Config.base : Int)) n s

/-- `MemWrite(addr, n, v)` at a host address (20_memory.md R34). -/
def memWrite (addr n : Nat) (v : Limb) (s : State) : Except Fault (Host.Outcome State Fault Refusal) :=
  portWrite ((addr : Int) - (Config.base : Int)) n v s

/-- One access performed to its end, its answer recorded: the value read, a completed write, or the
refusal with every register unchanged (20_memory.md R35, R38; logs 3 and 4). -/
def perform (a : Access) (s : State) : Host.Outcome State Fault Refusal :=
  match a with
  | .read o n =>
    match portRead o n s with
    | .ok v => .next (s.reply (.data v))
    | .error f => .next (s.reply (.refused f))
  | .write o n v =>
    match portWrite o n v (s.reply .done) with
    | .ok outcome => outcome
    | .error f => .next (s.reply (.refused f))

/-- One event from outside: an access or the reset event (70_reset_and_hazards.md R155, R162). -/
def handleEvent (e : Event) (s : State) : Host.Outcome State Fault Refusal :=
  match e with
  | .access a => perform a s
  | .reset => .next s.applyReset

/-- The next event in arrival order, or nothing to do: DWU starts nothing on its own
(10_state.md R13, 20_memory.md R38; log 5). -/
def serveNext (s : State) : Host.Outcome State Fault Refusal :=
  match s.pending with
  | [] => .next s
  | e :: rest => handleEvent e (s.setPending rest)

/-- The write to `CMD` at offset 0x60 that runs a command word (20_memory.md R26, R32). -/
def commandWrite (w : CmdWord) : Event := .access (.write 0x60 8 w)

/-- The byte at offset `k` of the window, where a readable register stands: byte `k mod 8` of it,
little-endian (20_memory.md R28); `none` where nothing can be read (R27, R31). -/
def windowByte (s : State) (k : Nat) : Option Byte :=
  ((regAt (k / 8 * 8)).bind (readReg s)).map fun v => v.extractLsb' (8 * (k % 8)) 8

/-- The little-endian byte buffer of `len` bytes from an offset of the window, an unreadable byte
left out (20_memory.md R29): 24 bytes of a Decimal, 16 of a Rate. -/
def windowBytes (s : State) (start len : Nat) : List Byte :=
  (List.range len).filterMap fun k => windowByte s (start + k)

end Sys2Proof.Machine
end

