-- ==== Sys2Proof/Machine/Step.lean ====
section
/-! DEFINITION. One step of the machine: one event of the host served (20_memory.md R38). DWU has no
program counter and fetches nothing (10_state.md R13); the nearest thing to a fetch is taking the
command word from the data of the `CMD` write (20_memory.md R41). -/

namespace Sys2Proof.Machine

/-- One step: the oldest pending event is served; with none pending nothing changes. -/
def step (s : State) : Host.Outcome State Fault Refusal := serveNext s

/-- `s` with a write of the word to `CMD` as the next access to be served, before what was pending:
where a step takes its next command from (log 2). -/
def State.withFetchWord (s : State) (nbits w : Nat) : State :=
  s.setPending (commandWrite (BitVec.ofNat 64 (w % 2 ^ nbits)) :: s.pending)

end Sys2Proof.Machine
end

