-- ==== Sys2Proof/Machine/Limbs.lean ====
section
/-! DEFINITION. The limb-level reference datapath (44_limb_algorithms.md): the carry chain, the borrow
chain, the comparator, the schoolbook multiplier and its overflow test, the restoring divider, the
shifter, and the scaled engines composed of them. It adds no command and no state (R125): the meanings
are defined by the big-number helpers, and that this datapath computes the same functions is stated
about it. A limb vector is a list, limb 0 first. -/

namespace Sys2Proof.Machine

/-- The number a limb vector stands for: `v_0 + B*v_1 + ...` with `B = 2^64` (00_scope.md R7). -/
def limbsValue : List Limb → Nat
  | [] => 0
  | x :: xs => x.toNat + 2 ^ 64 * limbsValue xs

/-- The `count` limbs of a number: `limb(v, i)` for `i` from 0 (00_scope.md R7). -/
def toLimbs : Nat → Nat → List Limb
  | 0, _ => []
  | count + 1, v => BitVec.ofNat 64 v :: toLimbs count (v / 2 ^ 64)

/-- `AddChain` (R126) from a carry `c` into the first limb: the sum's limbs and the carry out. -/
def addChain : Nat → List Limb → List Limb → List Limb × Nat
  | c, x :: xs, y :: ys =>
    let t := x.toNat + y.toNat + c
    let rest := addChain (t / 2 ^ 64) xs ys
    (BitVec.ofNat 64 t :: rest.1, rest.2)
  | c, _, _ => ([], c)

/-- `SubChain` (R127) from a borrow `w` into the first limb: the difference's limbs and the borrow
out. -/
def subChain : Nat → List Limb → List Limb → List Limb × Nat
  | w, x :: xs, y :: ys =>
    if y.toNat + w ≤ x.toNat then
      let rest := subChain 0 xs ys
      (BitVec.ofNat 64 (x.toNat - y.toNat - w) :: rest.1, rest.2)
    else
      let rest := subChain 1 xs ys
      (BitVec.ofNat 64 (x.toNat + 2 ^ 64 - y.toNat - w) :: rest.1, rest.2)
  | w, _, _ => ([], w)

/-- The comparator on limbs listed most significant first (R128). -/
def cmpFromTop : List Limb → List Limb → Nat
  | x :: xs, y :: ys =>
    if x.toNat < y.toNat then 0 else if y.toNat < x.toNat then 2 else cmpFromTop xs ys
  | _, _ => 1

/-- `CmpLimbs` (R128): lexicographic from the most significant limb down. -/
def cmpLimbs (a b : List Limb) : Nat := cmpFromTop a.reverse b.reverse

/-- The inner loop of `MulLimbs` (R129) for one limb `x` of the multiplier: `p` is the product
register from limb `i` on, `k` the carry limb; after the last limb of `b` the carry is stored. -/
def mulRow (x : Limb) : List Limb → List Limb → Limb → List Limb
  | y :: ys, p :: ps, k =>
    let t := p.toNat + x.toNat * y.toNat + k.toNat
    BitVec.ofNat 64 t :: mulRow x ys ps (BitVec.ofNat 64 (t / 2 ^ 64))
  | [], _ :: ps, k => k :: ps
  | _, [], _ => []

/-- The outer loop of `MulLimbs` (R129): after row `i`, limb `i` of the product register is final. -/
def mulRows : List Limb → List Limb → List Limb → List Limb
  | [], _, p => p
  | x :: xs, b, p =>
    match mulRow x b p 0 with
    | r :: rs => r :: mulRows xs b rs
    | [] => []

/-- `MulLimbs` (R129): the exact product in a register of `2L` limbs. -/
def mulLimbs (a b : List Limb) : List Limb :=
  mulRows a b (List.replicate (a.length + b.length) 0)

/-- The multiplier's overflow test (R130): some high limb of the finished product is not zero. -/
def checkedMulLimbs (w : Width) (a b : Nat) : Except Err Nat :=
  let p := mulLimbs (toLimbs (widthLimbs w) a) (toLimbs (widthLimbs w) b)
  if (p.drop (widthLimbs w)).any (fun x => x ≠ 0) then .error .overflow
  else .ok (limbsValue (p.take (widthLimbs w)))

/-- The restoring divider (R131): `i` bits of the dividend `a` still to bring down, remainder and
quotient so far. Answers the quotient and the remainder. -/
def divBitsFrom (a b : Nat) : Nat → Nat → Nat → Nat × Nat
  | 0, rem, q => (q, rem)
  | i + 1, rem, q =>
    let rem' := 2 * rem + (a / 2 ^ i) % 2
    if b ≤ rem' then divBitsFrom a b i (rem' - b) (q + 2 ^ i) else divBitsFrom a b i rem' q

/-- `DivBits(W, a, b)` (R131). -/
def divBits (w : Width) (a b : Nat) : Nat × Nat := divBitsFrom a b (widthBits w) 0 0

/-- The ceiling test by the borrow chain with the operands `(MAXRAW_T, v)` (R127). -/
def ceilingByBorrow (t : STy) (v : Nat) : Except Err Nat :=
  let l := widthLimbs (backing t)
  if (subChain 0 (toLimbs l (maxRaw t)) (toLimbs l v)).2 = 1 then .error .overflow else .ok v

/-- The scaled-multiply engine from the blocks above (R132). -/
def scaledMulLimbs (t : STy) (a b : Nat) : Except Err Nat := do
  let p ← checkedMulLimbs (backing t) a b
  ceilingByBorrow t (divBits (backing t) p (scale t)).1

/-- The scaled-divide engine from the blocks above (R132). -/
def scaledDivLimbs (t : STy) (a b : Nat) : Except Err Nat :=
  if b = 0 then .error .divisionByZero else do
    let p ← checkedMulLimbs (backing t) a (scale t)
    ceilingByBorrow t (divBits (backing t) p b).1

/-- Limb `i` of a limb vector, zero above its last limb (R133). -/
def limbAt (a : List Limb) (i : Nat) : Nat := (a.getD i 0).toNat

/-- The left shifter (R133) for a count `n` below the width. -/
def shlLimbs (a : List Limb) (n : Nat) : List Limb :=
  let k := n / 64
  let s := n % 64
  (List.range a.length).map fun i =>
    BitVec.ofNat 64
      ((if k ≤ i then (limbAt a (i - k) * 2 ^ s) % 2 ^ 64 else 0) +
        (if s = 0 then 0 else if k + 1 ≤ i then limbAt a (i - k - 1) / 2 ^ (64 - s) else 0))

/-- The right shifter (R133) for a count `n` below the width. -/
def shrLimbs (a : List Limb) (n : Nat) : List Limb :=
  let k := n / 64
  let s := n % 64
  (List.range a.length).map fun i =>
    BitVec.ofNat 64
      (limbAt a (i + k) / 2 ^ s +
        (if s = 0 then 0 else (limbAt a (i + k + 1) * 2 ^ (64 - s)) % 2 ^ 64))

end Sys2Proof.Machine
end

