-- ==== Sys2Proof/Machine/Script.lean ====
section
/-! DEFINITION. Host scripts (30_encoding.md R52 to R54): the notation a test runner gives DWU's host,
its expansion into accesses, and the running of it. Nothing here is state of DWU (10_state.md R13). -/

namespace Sys2Proof.Machine

/-- `<reg>`: "a name of 20_memory.md rule R26 or a hexadecimal offset" (R52). -/
inductive Target where
  | name (r : WindowReg)
  | offset (o : Int)
deriving DecidableEq, Repr

/-- One script line: the two primitives (R52), a command mnemonic (R53), the pseudo-instructions
(R54). -/
inductive Line where
  | wr (t : Target) (v : Limb)
  | rd (t : Target)
  | command (i : Instr)
  | lda (n : Wide)
  | ldb (n : Wide)
  | rdres
  | rdst
  | mvra
  | mvrb
deriving DecidableEq, Repr

/-- One access the host makes: a given one, or a write of the value it has just read, as in the
expansions of `mvra` and `mvrb` (R54). -/
inductive HostAccess where
  | plain (a : Access)
  | writeRead (offset : Int)
deriving DecidableEq, Repr

/-- The offset of a named register (20_memory.md R26). -/
def regOffset : WindowReg → Int
  | .opa k => 8 * (k.val : Int)
  | .opb k => 0x20 + 8 * (k.val : Int)
  | .res k => 0x40 + 8 * (k.val : Int)
  | .cmd => 0x60
  | .status => 0x68
  | .id => 0x70

/-- The offset a primitive line names (R52). -/
def targetOffset : Target → Int
  | .name r => regOffset r
  | .offset o => o

/-- `rd <reg>` by name. -/
def readOf (r : WindowReg) : HostAccess := .plain (.read (regOffset r) 8)

/-- `wr <reg>, <value>` by name. -/
def writeOf (r : WindowReg) (v : Limb) : HostAccess := .plain (.write (regOffset r) 8 v)

/-- The expansion of a script line into the host's accesses (R52, R53, R54). -/
def expandLine : Line → List HostAccess
  | .wr t v => [.plain (.write (targetOffset t) 8 v)]
  | .rd t => [.plain (.read (targetOffset t) 8)]
  | .command i => [writeOf .cmd (encode i)]
  | .lda n => [writeOf (.opa 0) (limb n 0), writeOf (.opa 1) (limb n 1), writeOf (.opa 2) (limb n 2)]
  | .ldb n => [writeOf (.opb 0) (limb n 0), writeOf (.opb 1) (limb n 1), writeOf (.opb 2) (limb n 2)]
  | .rdres => [readOf (.res 0), readOf (.res 1), readOf (.res 2)]
  | .rdst => [readOf .status]
  | .mvra => [readOf (.res 0), .writeRead (regOffset (.opa 0)), readOf (.res 1),
      .writeRead (regOffset (.opa 1)), readOf (.res 2), .writeRead (regOffset (.opa 2))]
  | .mvrb => [readOf (.res 0), .writeRead (regOffset (.opb 0)), readOf (.res 1),
      .writeRead (regOffset (.opb 1)), readOf (.res 2), .writeRead (regOffset (.opb 2))]

/-- The access a host makes after the answer `last`: a copy has a value to write only when the access
before it read one (log 13). -/
def resolveAccess (h : HostAccess) (last : Answer) : Option Access :=
  match h with
  | .plain a => some a
  | .writeRead o =>
    match last with
    | .data v => some (.write o 8 v)
    | _ => none

/-- The state after the host's accesses, made one after the other, each complete before the next
(20_memory.md R38). -/
def runHost : List HostAccess → State → Host.Outcome State Fault Refusal
  | [], s => .next s
  | h :: hs, s =>
    match resolveAccess h s.answer with
    | none => runHost hs s
    | some a =>
      match perform a s with
      | .next s' => runHost hs s'
      | .fault f => .fault f
      | .refused r => .refused r

/-- The answers the host's accesses get, in order: what a listing shows after `=>` (R52). -/
def transcript : List HostAccess → State → List Answer
  | [], _ => []
  | h :: hs, s =>
    match resolveAccess h s.answer with
    | none => transcript hs s
    | some a =>
      match perform a s with
      | .next s' => s'.answer :: transcript hs s'
      | _ => []

/-- The 192-bit value a listing of `rdres` shows: `RES0 + 2^64*RES1 + 2^128*RES2` (R54). -/
def shownResult : List Answer → Option Nat
  | [.data r0, .data r1, .data r2] => some (r0.toNat + 2 ^ 64 * r1.toNat + 2 ^ 128 * r2.toNat)
  | _ => none

/-- A whole script's accesses, line by line in order (R52). -/
def expandScript (lines : List Line) : List HostAccess := lines.flatMap expandLine

end Sys2Proof.Machine
end

