-- ==== Sys2Proof/Safety.lean ====
section
/-! DEFINITION. What the statements speak of: a good state (10_state.md R21), the two ways a command
leaves the state, written out independently of the operations the meanings use, the illegal words of
30_encoding.md R49, the squaring loop of R64 and R95 as a relation without any bound on its rounds, and
the overflow table of 60_exceptions.md R136. -/

namespace Sys2Proof.Machine

/-- "exactly one of these holds: `STATUS.CODE = 0`; or `STATUS.CODE` is in 1 to 6 and `RES = 0`"
(10_state.md R21). -/
def State.StatusGood (s : State) : Prop :=
  s.code = 0 ∨ (1 ≤ s.code.toNat ∧ s.code.toNat ≤ 6 ∧ s.res = 0)

/-- `s` after a command that succeeded with the number `r`: nothing but `RES` and `STATUS.CODE`
differs (60_exceptions.md R144). -/
def State.okWith (s : State) (r : Nat) : State := { s with res := BitVec.ofNat 192 r, code := 0 }

/-- `s` after a command that raised the error of code `c`: nothing but `RES` and `STATUS.CODE` differs
(60_exceptions.md R143). -/
def State.errWith (s : State) (c : BitVec 3) : State := { s with res := 0, code := c }

/-- The words of 30_encoding.md R49, by its own list: a bit of 63:8 set, a bit of 7:6 set, `CLS = 0`
with `FN` above 7, `CLS = 1` with `FN` above 8. -/
def IllegalWord (w : CmdWord) : Prop :=
  w.toNat / 2 ^ 8 ≠ 0 ∨ w.toNat / 2 ^ 6 % 4 ≠ 0 ∨
    (w.toNat / 2 ^ 4 % 2 = 0 ∧ 7 < w.toNat % 16) ∨ (w.toNat / 2 ^ 4 % 2 = 1 ∧ 8 < w.toNat % 16)

/-- The while loop of 40_wide_integer.md R64 and 41_scaled_arith.md R95 from `(acc, base, n)`, with
`mul` its checked multiplication: which outcome it ends with. -/
inductive SquaringRun (mul : Nat → Nat → Except Err Nat) : Nat → Nat → Nat → Except Err Nat → Prop
  /-- `n = 0`: the loop is over. -/
  | finished (acc base : Nat) : SquaringRun mul acc base 0 (.ok acc)
  /-- `n` odd and the accumulator's multiplication fails. -/
  | accFails (acc base n : Nat) (e : Err) (odd : n % 2 = 1) (h : mul acc base = .error e) :
      SquaringRun mul acc base n (.error e)
  /-- `n = 1`: the last bit; no squaring after it. -/
  | lastBit (acc base acc' : Nat) (h : mul acc base = .ok acc') : SquaringRun mul acc base 1 (.ok acc')
  /-- `n` odd and above 1, the squaring of the base fails. -/
  | oddBaseFails (acc base n acc' : Nat) (e : Err) (odd : n % 2 = 1) (more : 1 < n)
      (h : mul acc base = .ok acc') (hb : mul base base = .error e) :
      SquaringRun mul acc base n (.error e)
  /-- `n` odd and above 1: both multiplications succeed and the loop goes on. -/
  | oddGoesOn (acc base n acc' base' : Nat) (r : Except Err Nat) (odd : n % 2 = 1) (more : 1 < n)
      (h : mul acc base = .ok acc') (hb : mul base base = .ok base')
      (rest : SquaringRun mul acc' base' (n / 2) r) : SquaringRun mul acc base n r
  /-- `n` even and above 0, the squaring of the base fails. -/
  | evenBaseFails (acc base n : Nat) (e : Err) (even : n % 2 = 0) (more : 0 < n)
      (hb : mul base base = .error e) : SquaringRun mul acc base n (.error e)
  /-- `n` even and above 0: the base is squared and the loop goes on. -/
  | evenGoesOn (acc base n base' : Nat) (r : Except Err Nat) (even : n % 2 = 0) (more : 0 < n)
      (hb : mul base base = .ok base') (rest : SquaringRun mul acc base' (n / 2) r) :
      SquaringRun mul acc base n r

/-- The scaled multiplication of 41_scaled_arith.md R93 with its numbers written out: width `bits`,
scale `s`, ceiling `top`. -/
def mulByRule (bits s top a b : Nat) : Except Err Nat :=
  if 2 ^ bits ≤ a * b ∨ top < a * b / s then .error .overflow else .ok (a * b / s)

/-- The table of 60_exceptions.md R136: when a command raises `Overflow`, for `a = OPA`, `b = OPB`. -/
def OverflowCondition (i : Instr) (a b : Nat) : Prop :=
  match i with
  | .wadd192 => 2 ^ 192 ≤ a + b
  | .wadd128 => 2 ^ 128 ≤ a + b
  | .wmul192 => 2 ^ 192 ≤ a * b
  | .wmul128 => 2 ^ 128 ≤ a * b
  | .wpow192 => 2 ^ 192 ≤ a ^ b
  | .wpow128 => 2 ^ 128 ≤ a ^ b
  | .saddD => 18446744073709551615000000000000000000 < a + b
  | .saddR => 25500000000 < a + b
  | .ssubD => b ≤ a ∧ 18446744073709551615000000000000000000 < a - b
  | .ssubR => b ≤ a ∧ 25500000000 < a - b
  | .smulD => 2 ^ 192 ≤ a * b ∨ 18446744073709551615000000000000000000 < a * b / 10 ^ 18
  | .smulR => 2 ^ 128 ≤ a * b ∨ 25500000000 < a * b / 10 ^ 8
  | .sdivD =>
    b ≠ 0 ∧ (2 ^ 192 ≤ a * 10 ^ 18 ∨ 18446744073709551615000000000000000000 < a * 10 ^ 18 / b)
  | .sdivR => b ≠ 0 ∧ (2 ^ 128 ≤ a * 10 ^ 8 ∨ 25500000000 < a * 10 ^ 8 / b)
  | .spowD =>
    SquaringRun (mulByRule 192 (10 ^ 18) 18446744073709551615000000000000000000) (10 ^ 18) a b
      (.error .overflow)
  | .spowR => SquaringRun (mulByRule 128 (10 ^ 8) 25500000000) (10 ^ 8) a b (.error .overflow)
  | .sfromintD => 2 ^ 64 - 1 < a
  | .sfromintR => 255 < a
  | .scvtR2D => 18446744073709551615000000000000000000 < a * 10 ^ 10
  | .wsub192 | .wdiv192 | .wshl192 | .wshr192 | .wcmp192 | .wsub128 | .wdiv128 | .wshl128 | .wshr128
  | .wcmp128 | .stofloorD | .stoceilD | .scvtD2R | .stofloorR | .stoceilR => False

end Sys2Proof.Machine
end

