-- ==== Sys2Proof/Certificates/Slice0/Obligations.lean ====
section
/-! DEFINITION. The statements for the provers. Each docstring names the rule of spec/ it formalises;
where a clause is the model's own choice it names the log entry. -/

open Sys2Proof Sys2Proof.Machine

/-- 30_encoding.md R47: the 34 commands and their words, in both directions. -/
def Obligations.OpcodeTableDecodesAndEncodes : Prop :=
  ∀ p ∈ ([(0x00, .wadd192), (0x01, .wsub192), (0x02, .wmul192), (0x03, .wdiv192), (0x04, .wpow192),
      (0x05, .wshl192), (0x06, .wshr192), (0x07, .wcmp192), (0x20, .wadd128), (0x21, .wsub128),
      (0x22, .wmul128), (0x23, .wdiv128), (0x24, .wpow128), (0x25, .wshl128), (0x26, .wshr128),
      (0x27, .wcmp128), (0x10, .saddD), (0x11, .ssubD), (0x12, .smulD), (0x13, .sdivD), (0x14, .spowD),
      (0x15, .sfromintD), (0x16, .stofloorD), (0x17, .stoceilD), (0x18, .scvtD2R), (0x30, .saddR),
      (0x31, .ssubR), (0x32, .smulR), (0x33, .sdivR), (0x34, .spowR), (0x35, .sfromintR),
      (0x36, .stofloorR), (0x37, .stoceilR), (0x38, .scvtR2D)] : List (CmdWord × Instr)),
    decode p.1 = .ok p.2 ∧ encode p.2 = p.1

/-- 30_encoding.md R47, R55: over all 64-bit words, a word decodes to a command exactly when it is that
command's word: no bit of a command word is dropped and no other word is taken for one. -/
def Obligations.DecodeAndEncodeAgreeOnEveryWord : Prop :=
  ∀ (w : CmdWord) (i : Instr), decode w = .ok i ↔ w = encode i

/-- 30_encoding.md R49: the illegal words are those of the rule's own list, they are all the words
that are no command's, and writing one to `CMD` is accepted like any command: code 6, `RES` cleared,
whatever the operands are, and the operands keep their values. -/
def Obligations.IllegalWordsRaiseIllegalCommand : Prop :=
  (∀ w : CmdWord, IllegalWord w ↔ ∀ i : Instr, w ≠ encode i) ∧
  ∀ (s : State) (w : CmdWord), IllegalWord w → portWrite 0x60 8 w s = .ok (.next (s.errWith 6))

/-- 30_encoding.md R55, 20_memory.md R41: a step whose next access writes a command's word to `CMD` is
that command's meaning on the state in which the access is taken and answered as completed; where the
word is no command's, it is the raising of code 6 on that state (the fields `pending` and `answer` are
the model's choice, logs 2 and 3). -/
def Obligations.StepRunsTheDecodedCommand : Prop :=
  ∀ (s : State) (w : CmdWord) (rest : List Event), s.pending = commandWrite w :: rest →
    (∀ i : Instr, decode w = .ok i → i.wellFormed = true →
      step s = exec i { s with pending := rest, answer := .done }) ∧
    (∀ e : Illegal, decode w = .error e →
      step s = .next { s with pending := rest, answer := .done, res := 0, code := 6 })

/-- 20_memory.md R38, R41: what is sent is served one at a time in arrival order, and what has not arrived
yet has no effect on what has been served. The list of what is sent is the model's own (log 2); that a
refused access is served like any other, and the machine goes on, is log 4; that a reset leaves what the
host has still to send is log 6. -/
def Obligations.AccessesAreServedInArrivalOrder : Prop :=
  ∀ (es : List Event) (s : State), ∃ t : State, ∀ rest : List Event,
    Host.Core.run Sys2Proof.core es.length (s.setPending (es ++ rest)) = .next (t.setPending rest)

/-- 70_reset_and_hazards.md R155: the reset event sets every register to its reset value. That the
host's further accesses stay and the answer is cleared is the model's choice (logs 3 and 6), and so is
that a step with nothing pending changes nothing (log 5). -/
def Obligations.ResetEventAndIdleStep : Prop :=
  (∀ (s : State) (rest : List Event), s.pending = .reset :: rest →
    step s = .next { opa := 0, opb := 0, res := 0, code := 0, pending := rest, answer := .idle }) ∧
  ∀ s : State, s.pending = [] → step s = .next s

/-- 10_state.md R20: what reset leaves, as registers and as the host reads them; `CMD` holds nothing. -/
def Obligations.ResetLeavesEveryRegisterDefined : Prop :=
  State.reset.opa = 0 ∧ State.reset.opb = 0 ∧ State.reset.res = 0 ∧ State.reset.code = 0 ∧
  portRead 0x68 8 State.reset = .ok 0 ∧ portRead 0x70 8 State.reset = .ok 0x0000034044570001 ∧
  portRead 0x60 8 State.reset = .error .busError

/-- 00_scope.md R6: what is known of the open parameters. -/
def Obligations.OpenParametersAreInTheirRange : Prop :=
  Config.base % 128 = 0 ∧
  ∃ bound : Nat, ∀ (op : CmdWord) (a b : Wide), 0 < Config.latency op a b ∧ Config.latency op a b ≤ bound

/-- 20_memory.md R33, the whole pseudocode of `MemRead(addr, 8)` (that an address outside the window is
the pseudocode's bus error is log 9). -/
def Obligations.MemReadFollowsTheRegisterMap : Prop :=
  ∀ (s : State) (addr : Nat), memRead addr 8 s =
    if addr % 8 ≠ 0 ∨ addr < Config.base ∨ Config.base + 128 ≤ addr then .error .busError
    else match addr - Config.base with
      | 0x00 => .ok (s.opa.extractLsb' 0 64)
      | 0x08 => .ok (s.opa.extractLsb' 64 64)
      | 0x10 => .ok (s.opa.extractLsb' 128 64)
      | 0x20 => .ok (s.opb.extractLsb' 0 64)
      | 0x28 => .ok (s.opb.extractLsb' 64 64)
      | 0x30 => .ok (s.opb.extractLsb' 128 64)
      | 0x40 => .ok (s.res.extractLsb' 0 64)
      | 0x48 => .ok (s.res.extractLsb' 64 64)
      | 0x50 => .ok (s.res.extractLsb' 128 64)
      | 0x68 => .ok (s.code.setWidth 64)
      | 0x70 => .ok 0x0000034044570001
      | _ => .error .busError

/-- 20_memory.md R34, the whole pseudocode of `MemWrite(addr, 8, v)`: a limb is replaced and the other
two kept; a write to `CMD` executes (an address outside the window: log 9). -/
def Obligations.MemWriteReplacesOneLimbOrExecutes : Prop :=
  ∀ (s : State) (addr : Nat) (v : Limb), memWrite addr 8 v s =
    if addr % 8 ≠ 0 ∨ addr < Config.base ∨ Config.base + 128 ≤ addr then .error .busError
    else match addr - Config.base with
      | 0x00 => .ok (.next { s with opa := s.opa.extractLsb' 64 128 ++ v })
      | 0x08 => .ok (.next { s with opa := s.opa.extractLsb' 128 64 ++ v ++ s.opa.extractLsb' 0 64 })
      | 0x10 => .ok (.next { s with opa := v ++ s.opa.extractLsb' 0 128 })
      | 0x20 => .ok (.next { s with opb := s.opb.extractLsb' 64 128 ++ v })
      | 0x28 => .ok (.next { s with opb := s.opb.extractLsb' 128 64 ++ v ++ s.opb.extractLsb' 0 64 })
      | 0x30 => .ok (.next { s with opb := v ++ s.opb.extractLsb' 0 128 })
      | 0x60 => .ok (execute v s)
      | _ => .error .busError

/-- 20_memory.md R30, R31: the port accepts exactly the aligned 8-byte accesses the rules list, and
refuses every other with a bus error. -/
def Obligations.PortAcceptsExactlyTheListedAccesses : Prop :=
  ∀ (s : State) (o : Int) (n : Nat) (v : Limb),
    (readWellFormed o n = true → ∃ x, portRead o n s = .ok x) ∧
    (readWellFormed o n = false → portRead o n s = .error .busError) ∧
    (writeWellFormed o n = true → ∃ t, portWrite o n v s = .ok (.next t)) ∧
    (writeWellFormed o n = false → portWrite o n v s = .error .busError)

/-- 20_memory.md R35 with R30 and R31: a refused access is answered with the bus error and changes no
register (recording the answer and going on is the model's choice, logs 3 and 4). -/
def Obligations.RefusedAccessChangesNoRegister : Prop :=
  ∀ (s : State) (o : Int) (n : Nat) (v : Limb) (rest : List Event),
    (s.pending = .access (.read o n) :: rest → readWellFormed o n = false →
      step s = .next { s with pending := rest, answer := .refused .busError }) ∧
    (s.pending = .access (.write o n v) :: rest → writeWellFormed o n = false →
      step s = .next { s with pending := rest, answer := .refused .busError })

/-- 20_memory.md R32, R33, R38: a read changes no register, its answer is the value the port reads in the
state it finds (or the port's refusal), and reading again gives the same answer. That the answer is
recorded in a field, and that a refusal is one, is the model's choice (logs 3 and 4), and so is the list
of pending events (log 2). -/
def Obligations.ReadsHaveNoSideEffect : Prop :=
  ∀ (s : State) (o : Int) (n : Nat) (rest : List Event),
    s.pending = .access (.read o n) :: rest →
    ∃ ans : Answer,
      (∀ v : Limb, portRead o n s = .ok v → ans = .data v) ∧
      (∀ f : Fault, portRead o n s = .error f → ans = .refused f) ∧
      step s = .next { s with pending := rest, answer := ans } ∧
      ∀ later : List Event,
        step { s with pending := .access (.read o n) :: later, answer := ans } =
          .next { s with pending := later, answer := ans }

/-- 20_memory.md R28, R32: an accepted write to an operand limb puts byte `v[8*i+7:8*i]` at offset
`o + i` and leaves every other byte of the window, and every register but that operand, as it was. That
the access is taken from `pending` and answered as done is the model's choice (logs 2 and 3). -/
def Obligations.LimbWriteStoresItsEightBytesOnly : Prop :=
  ∀ (s : State) (o : Nat) (v : Limb) (rest : List Event),
    o ∈ [0x00, 0x08, 0x10, 0x20, 0x28, 0x30] →
    s.pending = .access (.write (o : Int) 8 v) :: rest →
    ∃ t : State, step s = .next t ∧
      (∀ i : Nat, i < 8 → windowByte t (o + i) = some (v.extractLsb' (8 * i) 8)) ∧
      (∀ k : Nat, (k < o ∨ o + 8 ≤ k) → windowByte t k = windowByte s k) ∧
      (o < 0x20 → t.opb = s.opb) ∧ (0x20 ≤ o → t.opa = s.opa) ∧
      t.res = s.res ∧ t.code = s.code ∧ t.pending = rest ∧ t.answer = .done

/-- 20_memory.md R29: the 24 bytes of a Decimal and the 16 bytes of a Rate at the offsets of each
register are the little-endian buffer of its value. -/
def Obligations.ByteBuffersAreLittleEndian : Prop :=
  ∀ s : State,
    valueOfBytes (windowBytes s 0x00 24) = s.opa.toNat ∧
    valueOfBytes (windowBytes s 0x20 24) = s.opb.toNat ∧
    valueOfBytes (windowBytes s 0x40 24) = s.res.toNat ∧
    (s.opa.toNat < 2 ^ 128 →
      valueOfBytes (windowBytes s 0x00 16) = s.opa.toNat ∧ windowBytes s 0x10 8 = List.replicate 8 0) ∧
    (s.opb.toNat < 2 ^ 128 →
      valueOfBytes (windowBytes s 0x20 16) = s.opb.toNat ∧ windowBytes s 0x30 8 = List.replicate 8 0) ∧
    (s.res.toNat < 2 ^ 128 →
      valueOfBytes (windowBytes s 0x40 16) = s.res.toNat ∧ windowBytes s 0x50 8 = List.replicate 8 0)

/-- 10_state.md R16: `ID` reads the constant in every state, field by field, and cannot be written. -/
def Obligations.IdentityRegisterIsConstant : Prop :=
  ∀ (s : State) (v : Limb), portWrite 0x70 8 v s = .error .busError ∧
    ∃ id : Limb, portRead 0x70 8 s = .ok id ∧ id = 0x0000034044570001 ∧
      id.extractLsb' 0 16 = 0x0001 ∧ id.extractLsb' 16 16 = 0x4457 ∧ id.extractLsb' 32 8 = 0x40 ∧
      id.extractLsb' 40 8 = 0x03 ∧ id.extractLsb' 48 16 = 0

/-- 40_wide_integer.md R70, R71. -/
def Obligations.WideAdditionCommands : Prop :=
  encode .wadd192 = 0x00 ∧ encode .wadd128 = 0x20 ∧ ∀ s : State,
    exec .wadd192 s = .next (
      if s.opa.toNat + s.opb.toNat < 2 ^ 192 then s.okWith (s.opa.toNat + s.opb.toNat)
      else s.errWith 1) ∧
    exec .wadd128 s = .next (
      if 2 ^ 128 ≤ s.opa.toNat ∨ 2 ^ 128 ≤ s.opb.toNat then s.errWith 5
      else if s.opa.toNat + s.opb.toNat < 2 ^ 128 then s.okWith (s.opa.toNat + s.opb.toNat)
      else s.errWith 1)

/-- 40_wide_integer.md R72, R73. -/
def Obligations.WideSubtractionCommands : Prop :=
  encode .wsub192 = 0x01 ∧ encode .wsub128 = 0x21 ∧ ∀ s : State,
    exec .wsub192 s = .next (
      if s.opb.toNat ≤ s.opa.toNat then s.okWith (s.opa.toNat - s.opb.toNat) else s.errWith 2) ∧
    exec .wsub128 s = .next (
      if 2 ^ 128 ≤ s.opa.toNat ∨ 2 ^ 128 ≤ s.opb.toNat then s.errWith 5
      else if s.opb.toNat ≤ s.opa.toNat then s.okWith (s.opa.toNat - s.opb.toNat)
      else s.errWith 2)

/-- 40_wide_integer.md R74, R75: the test is on the exact product. -/
def Obligations.WideMultiplicationCommands : Prop :=
  encode .wmul192 = 0x02 ∧ encode .wmul128 = 0x22 ∧ ∀ s : State,
    exec .wmul192 s = .next (
      if s.opa.toNat * s.opb.toNat < 2 ^ 192 then s.okWith (s.opa.toNat * s.opb.toNat)
      else s.errWith 1) ∧
    exec .wmul128 s = .next (
      if 2 ^ 128 ≤ s.opa.toNat ∨ 2 ^ 128 ≤ s.opb.toNat then s.errWith 5
      else if s.opa.toNat * s.opb.toNat < 2 ^ 128 then s.okWith (s.opa.toNat * s.opb.toNat)
      else s.errWith 1)

/-- 40_wide_integer.md R76, R77. -/
def Obligations.WideDivisionCommands : Prop :=
  encode .wdiv192 = 0x03 ∧ encode .wdiv128 = 0x23 ∧ ∀ s : State,
    exec .wdiv192 s = .next (
      if s.opb.toNat = 0 then s.errWith 3 else s.okWith (s.opa.toNat / s.opb.toNat)) ∧
    exec .wdiv128 s = .next (
      if 2 ^ 128 ≤ s.opa.toNat ∨ 2 ^ 128 ≤ s.opb.toNat then s.errWith 5
      else if s.opb.toNat = 0 then s.errWith 3
      else s.okWith (s.opa.toNat / s.opb.toNat))

/-- 40_wide_integer.md R78, R79 with R64's outcome: the true power, or `Overflow` exactly when it does
not fit, for every exponent the register can hold. -/
def Obligations.WidePowerCommandsAreExact : Prop :=
  encode .wpow192 = 0x04 ∧ encode .wpow128 = 0x24 ∧ ∀ s : State,
    exec .wpow192 s = .next (
      if s.opa.toNat ^ s.opb.toNat < 2 ^ 192 then s.okWith (s.opa.toNat ^ s.opb.toNat)
      else s.errWith 1) ∧
    exec .wpow128 s = .next (
      if 2 ^ 128 ≤ s.opa.toNat ∨ 2 ^ 128 ≤ s.opb.toNat then s.errWith 5
      else if s.opa.toNat ^ s.opb.toNat < 2 ^ 128 then s.okWith (s.opa.toNat ^ s.opb.toNat)
      else s.errWith 1)

/-- 40_wide_integer.md R80, R81. -/
def Obligations.WideShiftLeftCommands : Prop :=
  encode .wshl192 = 0x05 ∧ encode .wshl128 = 0x25 ∧ ∀ s : State,
    exec .wshl192 s = .next (
      if 192 ≤ s.opb.toNat then s.okWith 0 else s.okWith (s.opa.toNat * 2 ^ s.opb.toNat % 2 ^ 192)) ∧
    exec .wshl128 s = .next (
      if 2 ^ 128 ≤ s.opa.toNat ∨ 2 ^ 128 ≤ s.opb.toNat then s.errWith 5
      else if 128 ≤ s.opb.toNat then s.okWith 0
      else s.okWith (s.opa.toNat * 2 ^ s.opb.toNat % 2 ^ 128))

/-- 40_wide_integer.md R82, R83. -/
def Obligations.WideShiftRightCommands : Prop :=
  encode .wshr192 = 0x06 ∧ encode .wshr128 = 0x26 ∧ ∀ s : State,
    exec .wshr192 s = .next (
      if 192 ≤ s.opb.toNat then s.okWith 0 else s.okWith (s.opa.toNat / 2 ^ s.opb.toNat)) ∧
    exec .wshr128 s = .next (
      if 2 ^ 128 ≤ s.opa.toNat ∨ 2 ^ 128 ≤ s.opb.toNat then s.errWith 5
      else if 128 ≤ s.opb.toNat then s.okWith 0
      else s.okWith (s.opa.toNat / 2 ^ s.opb.toNat))

/-- 40_wide_integer.md R84, R85. -/
def Obligations.WideComparisonCommands : Prop :=
  encode .wcmp192 = 0x07 ∧ encode .wcmp128 = 0x27 ∧ ∀ s : State,
    exec .wcmp192 s = .next (
      if s.opa.toNat < s.opb.toNat then s.okWith 0
      else if s.opa.toNat = s.opb.toNat then s.okWith 1 else s.okWith 2) ∧
    exec .wcmp128 s = .next (
      if 2 ^ 128 ≤ s.opa.toNat ∨ 2 ^ 128 ≤ s.opb.toNat then s.errWith 5
      else if s.opa.toNat < s.opb.toNat then s.okWith 0
      else if s.opa.toNat = s.opb.toNat then s.okWith 1 else s.okWith 2)

/-- 41_scaled_arith.md R100, R101: the two tests together are the one against the ceiling (R91). -/
def Obligations.ScaledAdditionCommands : Prop :=
  encode .saddD = 0x10 ∧ encode .saddR = 0x30 ∧ ∀ s : State,
    exec .saddD s = .next (
      if s.opa.toNat + s.opb.toNat ≤ 18446744073709551615000000000000000000
      then s.okWith (s.opa.toNat + s.opb.toNat) else s.errWith 1) ∧
    exec .saddR s = .next (
      if 2 ^ 128 ≤ s.opa.toNat ∨ 2 ^ 128 ≤ s.opb.toNat then s.errWith 5
      else if s.opa.toNat + s.opb.toNat ≤ 25500000000 then s.okWith (s.opa.toNat + s.opb.toNat)
      else s.errWith 1)

/-- 41_scaled_arith.md R102, R103: `Underflow` before `Overflow`. -/
def Obligations.ScaledSubtractionCommands : Prop :=
  encode .ssubD = 0x11 ∧ encode .ssubR = 0x31 ∧ ∀ s : State,
    exec .ssubD s = .next (
      if s.opa.toNat < s.opb.toNat then s.errWith 2
      else if s.opa.toNat - s.opb.toNat ≤ 18446744073709551615000000000000000000
      then s.okWith (s.opa.toNat - s.opb.toNat) else s.errWith 1) ∧
    exec .ssubR s = .next (
      if 2 ^ 128 ≤ s.opa.toNat ∨ 2 ^ 128 ≤ s.opb.toNat then s.errWith 5
      else if s.opa.toNat < s.opb.toNat then s.errWith 2
      else if s.opa.toNat - s.opb.toNat ≤ 25500000000 then s.okWith (s.opa.toNat - s.opb.toNat)
      else s.errWith 1)

/-- 41_scaled_arith.md R104, R105: backing width, floor division by the scale, ceiling. -/
def Obligations.ScaledMultiplicationCommands : Prop :=
  encode .smulD = 0x12 ∧ encode .smulR = 0x32 ∧ ∀ s : State,
    exec .smulD s = .next (
      if 2 ^ 192 ≤ s.opa.toNat * s.opb.toNat then s.errWith 1
      else if s.opa.toNat * s.opb.toNat / 10 ^ 18 ≤ 18446744073709551615000000000000000000
      then s.okWith (s.opa.toNat * s.opb.toNat / 10 ^ 18) else s.errWith 1) ∧
    exec .smulR s = .next (
      if 2 ^ 128 ≤ s.opa.toNat ∨ 2 ^ 128 ≤ s.opb.toNat then s.errWith 5
      else if 2 ^ 128 ≤ s.opa.toNat * s.opb.toNat then s.errWith 1
      else if s.opa.toNat * s.opb.toNat / 10 ^ 8 ≤ 25500000000
      then s.okWith (s.opa.toNat * s.opb.toNat / 10 ^ 8) else s.errWith 1)

/-- 41_scaled_arith.md R106, R107: the zero test first, then backing width, then ceiling. -/
def Obligations.ScaledDivisionCommands : Prop :=
  encode .sdivD = 0x13 ∧ encode .sdivR = 0x33 ∧ ∀ s : State,
    exec .sdivD s = .next (
      if s.opb.toNat = 0 then s.errWith 3
      else if 2 ^ 192 ≤ s.opa.toNat * 10 ^ 18 then s.errWith 1
      else if s.opa.toNat * 10 ^ 18 / s.opb.toNat ≤ 18446744073709551615000000000000000000
      then s.okWith (s.opa.toNat * 10 ^ 18 / s.opb.toNat) else s.errWith 1) ∧
    exec .sdivR s = .next (
      if 2 ^ 128 ≤ s.opa.toNat ∨ 2 ^ 128 ≤ s.opb.toNat then s.errWith 5
      else if s.opb.toNat = 0 then s.errWith 3
      else if 2 ^ 128 ≤ s.opa.toNat * 10 ^ 8 then s.errWith 1
      else if s.opa.toNat * 10 ^ 8 / s.opb.toNat ≤ 25500000000
      then s.okWith (s.opa.toNat * 10 ^ 8 / s.opb.toNat) else s.errWith 1)

/-- 41_scaled_arith.md R108, R109: `spow` ends as the loop of R95 ends, the loop always ends, and an
exponent of zero gives the scale. -/
def Obligations.ScaledPowerCommandsFollowTheLoop : Prop :=
  encode .spowD = 0x14 ∧ encode .spowR = 0x34 ∧ ∀ s : State,
    (∃ r, SquaringRun (mulByRule 192 (10 ^ 18) 18446744073709551615000000000000000000) (10 ^ 18)
        s.opa.toNat s.opb.toNat r ∧
      exec .spowD s = .next (match r with | .ok v => s.okWith v | .error _ => s.errWith 1)) ∧
    (∃ r, SquaringRun (mulByRule 128 (10 ^ 8) 25500000000) (10 ^ 8) s.opa.toNat s.opb.toNat r ∧
      exec .spowR s = .next (
        if 2 ^ 128 ≤ s.opa.toNat ∨ 2 ^ 128 ≤ s.opb.toNat then s.errWith 5
        else match r with | .ok v => s.okWith v | .error _ => s.errWith 1)) ∧
    (s.opb = 0 → exec .spowD s = .next (s.okWith (10 ^ 18))) ∧
    (s.opb = 0 → s.opa.toNat < 2 ^ 128 → exec .spowR s = .next (s.okWith (10 ^ 8)))

/-- 42_scaled_convert.md R115, R116. -/
def Obligations.FromIntegerCommands : Prop :=
  encode .sfromintD = 0x15 ∧ encode .sfromintR = 0x35 ∧ ∀ s : State,
    exec .sfromintD s = .next (
      if s.opa.toNat ≤ 2 ^ 64 - 1 then s.okWith (s.opa.toNat * 10 ^ 18) else s.errWith 1) ∧
    exec .sfromintR s = .next (
      if 2 ^ 128 ≤ s.opa.toNat then s.errWith 5
      else if s.opa.toNat ≤ 255 then s.okWith (s.opa.toNat * 10 ^ 8) else s.errWith 1)

/-- 42_scaled_convert.md R117, R118: the whole quotient, never cut. -/
def Obligations.ToIntegerFloorCommands : Prop :=
  encode .stofloorD = 0x16 ∧ encode .stofloorR = 0x36 ∧ ∀ s : State,
    exec .stofloorD s = .next (s.okWith (s.opa.toNat / 10 ^ 18)) ∧
    exec .stofloorR s = .next (
      if 2 ^ 128 ≤ s.opa.toNat then s.errWith 5 else s.okWith (s.opa.toNat / 10 ^ 8))

/-- 42_scaled_convert.md R119, R120. -/
def Obligations.ToIntegerCeilingCommands : Prop :=
  encode .stoceilD = 0x17 ∧ encode .stoceilR = 0x37 ∧ ∀ s : State,
    exec .stoceilD s = .next (
      if s.opa.toNat % 10 ^ 18 = 0 then s.okWith (s.opa.toNat / 10 ^ 18)
      else s.okWith (s.opa.toNat / 10 ^ 18 + 1)) ∧
    exec .stoceilR s = .next (
      if 2 ^ 128 ≤ s.opa.toNat then s.errWith 5
      else if s.opa.toNat % 10 ^ 8 = 0 then s.okWith (s.opa.toNat / 10 ^ 8)
      else s.okWith (s.opa.toNat / 10 ^ 8 + 1))

/-- 42_scaled_convert.md R121, R122: the bound of `scvt.d2r` is inclusive (90_conflicts.md C2). -/
def Obligations.BridgeCommands : Prop :=
  encode .scvtD2R = 0x18 ∧ encode .scvtR2D = 0x38 ∧ ∀ s : State,
    exec .scvtD2R s = .next (
      if s.opa.toNat ≤ 255 * 10 ^ 18 then s.okWith (s.opa.toNat / 10 ^ 10) else s.errWith 4) ∧
    exec .scvtR2D s = .next (
      if 2 ^ 128 ≤ s.opa.toNat then s.errWith 5
      else if s.opa.toNat * 10 ^ 10 ≤ 18446744073709551615000000000000000000
      then s.okWith (s.opa.toNat * 10 ^ 10) else s.errWith 1)

/-- 60_exceptions.md R143, R144, 10_state.md R10: the frame of all 34 commands. Nothing but `RES` and
`STATUS.CODE` changes, and of the window's bytes only those of `RES` (0x40 to 0x57) and `STATUS` (0x68
to 0x6F). -/
def Obligations.CommandsChangeOnlyResAndStatus : Prop :=
  ∀ (i : Instr) (s t : State), exec i s = .next t →
    t.opa = s.opa ∧ t.opb = s.opb ∧ t.pending = s.pending ∧ t.answer = s.answer ∧
    ∀ k : Nat, (k < 0x40 ∨ 0x58 ≤ k) → (k < 0x68 ∨ 0x70 ≤ k) → windowByte t k = windowByte s k

/-- 60_exceptions.md R141 (with R142's order): `FormatError` is written by exactly the commands of
width 128, exactly when an operand register they read holds `2^128` or more. -/
def Obligations.FormatErrorExactlyOnWideOperands : Prop :=
  ∀ (i : Instr) (s : State), ∃ t : State, exec i s = .next t ∧
    (t.code = 5 ↔
      (i ∈ [.wadd128, .wsub128, .wmul128, .wdiv128, .wpow128, .wshl128, .wshr128, .wcmp128, .saddR,
          .ssubR, .smulR, .sdivR, .spowR] ∧ (2 ^ 128 ≤ s.opa.toNat ∨ 2 ^ 128 ≤ s.opb.toNat)) ∨
      (i ∈ [.sfromintR, .stofloorR, .stoceilR, .scvtR2D] ∧ 2 ^ 128 ≤ s.opa.toNat))

/-- 60_exceptions.md R136 under the priority of R142: where `Overflow` is written, over all commands;
the rule's table is `OverflowCondition`. -/
def Obligations.OverflowExactlyByTheTable : Prop :=
  ∀ (i : Instr) (s : State), ∃ t : State, exec i s = .next t ∧
    (t.code = 1 ↔ OverflowCondition i s.opa.toNat s.opb.toNat ∧
      ¬ (i ∈ [.wadd128, .wsub128, .wmul128, .wdiv128, .wpow128, .wshl128, .wshr128, .wcmp128, .saddR,
          .ssubR, .smulR, .sdivR, .spowR] ∧ (2 ^ 128 ≤ s.opa.toNat ∨ 2 ^ 128 ≤ s.opb.toNat)) ∧
      ¬ (i ∈ [.sfromintR, .stofloorR, .stoceilR, .scvtR2D] ∧ 2 ^ 128 ≤ s.opa.toNat))

/-- 60_exceptions.md R137 and R138 under the priority of R142: where `Underflow` and `DivisionByZero`
are written, over all commands. -/
def Obligations.UnderflowAndDivisionByZeroExactly : Prop :=
  ∀ (i : Instr) (s : State), ∃ t : State, exec i s = .next t ∧
    (t.code = 2 ↔ s.opa.toNat < s.opb.toNat ∧
      (i ∈ [.wsub192, .ssubD] ∨ (i ∈ [.wsub128, .ssubR] ∧ s.opb.toNat < 2 ^ 128))) ∧
    (t.code = 3 ↔ s.opb.toNat = 0 ∧
      (i ∈ [.wdiv192, .sdivD] ∨ (i ∈ [.wdiv128, .sdivR] ∧ s.opa.toNat < 2 ^ 128)))

/-- 60_exceptions.md R139: `RangeError` is written by `scvt.d2r` above the bound, and by nothing
else. -/
def Obligations.RangeErrorOnlyByDecimalToRate : Prop :=
  ∀ (i : Instr) (s : State), ∃ t : State, exec i s = .next t ∧
    (t.code = 4 ↔ i = .scvtD2R ∧ 255 * 10 ^ 18 < s.opa.toNat)

/-- 60_exceptions.md R152: no panic, lock-up or fatal state: every step answers a next state, and
every command ends with a code from 0 to 5 (an illegal word with 6, and 7 is never written). -/
def Obligations.EveryStepAndEveryCommandCompletes : Prop :=
  (∀ s : State, ∃ t : State, step s = .next t) ∧
  (∀ (i : Instr) (s : State), ∃ t : State, exec i s = .next t ∧ t.code.toNat ≤ 5) ∧
  ∀ (w : CmdWord) (s : State), ∃ t : State, execute w s = .next t ∧ t.code.toNat ≤ 6

/-- 10_state.md R19: a command's outcome is a function of the command word, `OPA` and `OPB` alone; and
20_memory.md R32: executing the same word again gives the same outcome. -/
def Obligations.OutcomeDependsOnWordAndOperandsOnly : Prop :=
  ∀ (w : CmdWord) (s s' : State), s.opa = s'.opa → s.opb = s'.opb →
    ∃ t t' : State, execute w s = .next t ∧ execute w s' = .next t' ∧
      t.res = t'.res ∧ t.code = t'.code ∧ execute w t = .next t

/-- 10_state.md R12: the one-operand commands ignore `OPB`, also in the width check. -/
def Obligations.OneOperandCommandsIgnoreOPB : Prop :=
  ∀ (i : Instr) (s : State) (b : Wide),
    i ∈ [.sfromintD, .stofloorD, .stoceilD, .scvtD2R, .sfromintR, .stofloorR, .stoceilR, .scvtR2D] →
    ∃ t : State, exec i s = .next t ∧ exec i { s with opb := b } = .next { t with opb := b }

/-- 10_state.md R21: after any command the status is good; a width-128 or Rate result and that of
`scvt.d2r` is below `2^128`; a scaled result is within its type's ceiling. -/
def Obligations.ResultsKeepTheirBounds : Prop :=
  ∀ (i : Instr) (s : State), ∃ t : State, exec i s = .next t ∧ t.StatusGood ∧
    (t.code = 0 →
      (i ∈ [.wadd128, .wsub128, .wmul128, .wdiv128, .wpow128, .wshl128, .wshr128, .wcmp128, .saddR,
          .ssubR, .smulR, .sdivR, .spowR, .sfromintR, .stofloorR, .stoceilR, .scvtR2D, .scvtD2R] →
        t.res.toNat < 2 ^ 128) ∧
      (i ∈ [.saddD, .ssubD, .smulD, .sdivD, .spowD, .sfromintD, .scvtR2D] →
        t.res.toNat ≤ 18446744073709551615000000000000000000) ∧
      (i ∈ [.saddR, .ssubR, .smulR, .sdivR, .spowR, .sfromintR, .scvtD2R] →
        t.res.toNat ≤ 25500000000))

/-- 10_state.md R21 at reset (R20). -/
def Obligations.StatusGoodAtReset : Prop := State.reset.StatusGood

/-- 10_state.md R21 as an invariant: `STATUS.CODE` never becomes 7 and an error code always stands
with `RES = 0`, whatever access, command or reset is served. -/
def Obligations.EveryStepKeepsStatusGood : Prop :=
  ∀ s t : State, s.StatusGood → step s = .next t → t.StatusGood

/-- 40_wide_integer.md R64, 41_scaled_arith.md R95: the model's loop, which counts its rounds, ends as
the rules' while loop ends, for every multiplication and every start. -/
def Obligations.SquaringLoopFollowsTheRule : Prop :=
  ∀ (mul : Nat → Nat → Except Err Nat) (acc base n : Nat) (r : Except Err Nat),
    powFrom mul acc base n = r ↔ SquaringRun mul acc base n r

/-- 41_scaled_arith.md R97 (1), 40_wide_integer.md R68 (5): addition and multiplication commute, status
and value alike. -/
def Obligations.AdditionAndMultiplicationCommute : Prop :=
  ∀ (i : Instr) (s : State),
    i ∈ [.wadd192, .wadd128, .wmul192, .wmul128, .saddD, .saddR, .smulD, .smulR] →
    ∃ t u : State, exec i s = .next t ∧ exec i { s with opa := s.opb, opb := s.opa } = .next u ∧
      t.res = u.res ∧ t.code = u.code

/-- 41_scaled_arith.md R97 (2), (5): zero and one are neutral for values in the domain. -/
def Obligations.ScaledIdentities : Prop :=
  ∀ s : State,
    (s.opa.toNat ≤ 18446744073709551615000000000000000000 →
      (s.opb = 0 → exec .saddD s = .next { s with res := s.opa, code := 0 }) ∧
      (s.opb.toNat = 10 ^ 18 → exec .smulD s = .next { s with res := s.opa, code := 0 } ∧
        exec .sdivD s = .next { s with res := s.opa, code := 0 })) ∧
    (s.opa.toNat ≤ 25500000000 →
      (s.opb = 0 → exec .saddR s = .next { s with res := s.opa, code := 0 }) ∧
      (s.opb.toNat = 10 ^ 8 → exec .smulR s = .next { s with res := s.opa, code := 0 } ∧
        exec .sdivR s = .next { s with res := s.opa, code := 0 }))

/-- 41_scaled_arith.md R97 (3): scaled addition is associative where neither grouping overflows. -/
def Obligations.ScaledAdditionAssociates : Prop :=
  ∀ (t : STy) (a b c ab bc left right : Nat),
    scaledAdd t a b = .ok ab → scaledAdd t ab c = .ok left →
    scaledAdd t b c = .ok bc → scaledAdd t a bc = .ok right → left = right

/-- 42_scaled_convert.md R123 (1): an integer taken into a scaled type comes back, by floor and by
ceiling. -/
def Obligations.IntegerRoundTrip : Prop :=
  ∀ s : State,
    (s.opa.toNat ≤ 2 ^ 64 - 1 → ∃ t : State, exec .sfromintD s = .next t ∧ t.code = 0 ∧
      exec .stofloorD { t with opa := t.res } = .next { t with opa := t.res, res := s.opa } ∧
      exec .stoceilD { t with opa := t.res } = .next { t with opa := t.res, res := s.opa }) ∧
    (s.opa.toNat ≤ 255 → ∃ t : State, exec .sfromintR s = .next t ∧ t.code = 0 ∧
      exec .stofloorR { t with opa := t.res } = .next { t with opa := t.res, res := s.opa } ∧
      exec .stoceilR { t with opa := t.res } = .next { t with opa := t.res, res := s.opa })

/-- 42_scaled_convert.md R123 (3): a Rate in its domain survives the way to Decimal and back; the other
way drops the last ten digits. -/
def Obligations.RateDecimalRoundTrip : Prop :=
  ∀ s : State,
    (s.opa.toNat ≤ 25500000000 → ∃ t : State, exec .scvtR2D s = .next t ∧ t.code = 0 ∧
      exec .scvtD2R { t with opa := t.res } = .next { t with opa := t.res, res := s.opa }) ∧
    (s.opa.toNat ≤ 255 * 10 ^ 18 → ∃ t : State, exec .scvtD2R s = .next t ∧ t.code = 0 ∧
      exec .scvtR2D { t with opa := t.res } =
        .next (State.okWith { t with opa := t.res } (s.opa.toNat - s.opa.toNat % 10 ^ 10)))

/-- 42_scaled_convert.md R123 (2), of both types: floor and ceiling bracket the logical value and differ by
one exactly when there is a remainder; for Rate on every operand of its width. -/
def Obligations.FloorAndCeilingBracket : Prop :=
  ∀ s : State,
    (∃ t u : State, exec .stofloorD s = .next t ∧ exec .stoceilD s = .next u ∧
      t.code = 0 ∧ u.code = 0 ∧
      t.res.toNat * 10 ^ 18 ≤ s.opa.toNat ∧ s.opa.toNat ≤ u.res.toNat * 10 ^ 18 ∧
      (s.opa.toNat % 10 ^ 18 = 0 → u.res.toNat = t.res.toNat) ∧
      (s.opa.toNat % 10 ^ 18 ≠ 0 → u.res.toNat = t.res.toNat + 1)) ∧
    (s.opa.toNat < 2 ^ 128 →
      ∃ t u : State, exec .stofloorR s = .next t ∧ exec .stoceilR s = .next u ∧
        t.code = 0 ∧ u.code = 0 ∧
        t.res.toNat * 10 ^ 8 ≤ s.opa.toNat ∧ s.opa.toNat ≤ u.res.toNat * 10 ^ 8 ∧
        (s.opa.toNat % 10 ^ 8 = 0 → u.res.toNat = t.res.toNat) ∧
        (s.opa.toNat % 10 ^ 8 ≠ 0 → u.res.toNat = t.res.toNat + 1))

/-- 41_scaled_arith.md R98: the backing-width test of `smul.d` never rejects a product whose scaled
result is within the ceiling. -/
def Obligations.DecimalMultiplyLosesNothingByWidth : Prop :=
  ∀ s : State, s.opa.toNat * s.opb.toNat / 10 ^ 18 ≤ 18446744073709551615000000000000000000 →
    exec .smulD s = .next (s.okWith (s.opa.toNat * s.opb.toNat / 10 ^ 18))

/-- 44_limb_algorithms.md R126: the carry chain's fact, for limb vectors of any common length, and
`CheckedAdd` by its carry out. -/
def Obligations.CarryChainAdds : Prop :=
  (∀ xs ys : List Limb, xs.length = ys.length →
    limbsValue xs + limbsValue ys =
      limbsValue (addChain 0 xs ys).1 + (addChain 0 xs ys).2 * 2 ^ (64 * xs.length) ∧
    ((addChain 0 xs ys).2 = 1 ↔ 2 ^ (64 * xs.length) ≤ limbsValue xs + limbsValue ys) ∧
    (addChain 0 xs ys).2 ≤ 1) ∧
  ∀ (w : Width) (a b : Nat), a < 2 ^ widthBits w → b < 2 ^ widthBits w →
    checkedAdd w a b =
      if (addChain 0 (toLimbs (widthLimbs w) a) (toLimbs (widthLimbs w) b)).2 = 1 then .error .overflow
      else .ok (limbsValue (addChain 0 (toLimbs (widthLimbs w) a) (toLimbs (widthLimbs w) b)).1)

/-- 44_limb_algorithms.md R127: the borrow chain's fact, `CheckedSub` by its borrow out, and the
ceiling test by the same chain. -/
def Obligations.BorrowChainSubtracts : Prop :=
  (∀ xs ys : List Limb, xs.length = ys.length →
    limbsValue xs + (subChain 0 xs ys).2 * 2 ^ (64 * xs.length) =
      limbsValue (subChain 0 xs ys).1 + limbsValue ys ∧
    ((subChain 0 xs ys).2 = 1 ↔ limbsValue xs < limbsValue ys) ∧ (subChain 0 xs ys).2 ≤ 1) ∧
  (∀ (w : Width) (a b : Nat), a < 2 ^ widthBits w → b < 2 ^ widthBits w →
    checkedSub a b =
      if (subChain 0 (toLimbs (widthLimbs w) a) (toLimbs (widthLimbs w) b)).2 = 1 then .error .underflow
      else .ok (limbsValue (subChain 0 (toLimbs (widthLimbs w) a) (toLimbs (widthLimbs w) b)).1)) ∧
  ∀ (t : STy) (v : Nat), v < 2 ^ widthBits (backing t) → ceilingByBorrow t v = inDomain t v

/-- 44_limb_algorithms.md R128: the comparison from the most significant limb down is the order of the
numbers. -/
def Obligations.LimbComparatorOrdersNumbers : Prop :=
  ∀ xs ys : List Limb, xs.length = ys.length →
    cmpLimbs xs ys =
      if limbsValue xs < limbsValue ys then 0 else if limbsValue xs = limbsValue ys then 1 else 2

/-- 44_limb_algorithms.md R129, R130: the schoolbook product register holds the exact product, and the
overflow test on its high limbs is the test of `CheckedMul`. -/
def Obligations.SchoolbookMultiplierIsExact : Prop :=
  (∀ xs ys : List Limb, limbsValue (mulLimbs xs ys) = limbsValue xs * limbsValue ys ∧
    (mulLimbs xs ys).length = xs.length + ys.length) ∧
  ∀ (w : Width) (a b : Nat), a < 2 ^ widthBits w → b < 2 ^ widthBits w →
    checkedMulLimbs w a b = checkedMul w a b

/-- 44_limb_algorithms.md R131: the restoring divider gives quotient and remainder. -/
def Obligations.RestoringDividerDivides : Prop :=
  ∀ (w : Width) (a b : Nat), a < 2 ^ widthBits w → b ≠ 0 → divBits w a b = (a / b, a % b)

/-- 44_limb_algorithms.md R133: the limb shifter is `Shl` and `Shr` for every count below the width. -/
def Obligations.LimbShifterShifts : Prop :=
  ∀ (w : Width) (a n : Nat), a < 2 ^ widthBits w → n < widthBits w →
    limbsValue (shlLimbs (toLimbs (widthLimbs w) a) n) = shl w a n ∧
    limbsValue (shrLimbs (toLimbs (widthLimbs w) a) n) = shr w a n

/-- 44_limb_algorithms.md R132: the scaled engines composed of the limb blocks (schoolbook multiplier,
restoring divider, borrow-chain ceiling) are the scaled engines of R93 and R94, status and value. -/
def Obligations.ScaledEnginesAreBuiltFromLimbBlocks : Prop :=
  ∀ (t : STy) (a b : Nat), a < 2 ^ widthBits (backing t) → b < 2 ^ widthBits (backing t) →
    scaledMulLimbs t a b = scaledMul t a b ∧ scaledDivLimbs t a b = scaledDiv t a b

/-- 30_encoding.md R53, R54: what the script lines do to the registers: `lda` and `ldb` load all three
limbs, `mvra` and `mvrb` copy `RES`, a mnemonic runs its command, `rdst` and `rdres` show `STATUS` and
`RES`. The answers, those shown and the one left in the state, are the model's own field (log 3), and
the copy's write is log 13. -/
def Obligations.ScriptLinesDoWhatTheyStandFor : Prop :=
  ∀ (s : State) (n : Wide) (i : Instr),
    runHost (expandLine (.lda n)) s = .next { s with opa := n, answer := .done } ∧
    runHost (expandLine (.ldb n)) s = .next { s with opb := n, answer := .done } ∧
    runHost (expandLine .mvra) s = .next { s with opa := s.res, answer := .done } ∧
    runHost (expandLine .mvrb) s = .next { s with opb := s.res, answer := .done } ∧
    runHost (expandLine (.command i)) s = exec i { s with answer := .done } ∧
    transcript (expandLine .rdst) s = [.data (s.code.setWidth 64)] ∧
    shownResult (transcript (expandLine .rdres) s) = some s.res.toNat
end

