-- ==== Sys2Proof/Laws/State.lean ====
section
/-! SUPPORT. One lemma per field per update of the state, true by `rfl`, so that no later proof unfolds a
record update. -/

namespace Sys2Proof.Machine

@[simp] theorem State.writeOutcome_opa (s : State) (r : Wide) (c : BitVec 3) : (s.writeOutcome r c).opa = s.opa := rfl
@[simp] theorem State.writeOutcome_opb (s : State) (r : Wide) (c : BitVec 3) : (s.writeOutcome r c).opb = s.opb := rfl
@[simp] theorem State.writeOutcome_res (s : State) (r : Wide) (c : BitVec 3) : (s.writeOutcome r c).res = r := rfl
@[simp] theorem State.writeOutcome_code (s : State) (r : Wide) (c : BitVec 3) : (s.writeOutcome r c).code = c := rfl
@[simp] theorem State.writeOutcome_pending (s : State) (r : Wide) (c : BitVec 3) : (s.writeOutcome r c).pending = s.pending := rfl
@[simp] theorem State.writeOutcome_answer (s : State) (r : Wide) (c : BitVec 3) : (s.writeOutcome r c).answer = s.answer := rfl

@[simp] theorem State.succeed_opa (s : State) (r : Nat) : (s.succeed r).opa = s.opa := rfl
@[simp] theorem State.succeed_opb (s : State) (r : Nat) : (s.succeed r).opb = s.opb := rfl
@[simp] theorem State.succeed_res (s : State) (r : Nat) : (s.succeed r).res = BitVec.ofNat 192 r := rfl
@[simp] theorem State.succeed_code (s : State) (r : Nat) : (s.succeed r).code = 0 := rfl
@[simp] theorem State.succeed_pending (s : State) (r : Nat) : (s.succeed r).pending = s.pending := rfl
@[simp] theorem State.succeed_answer (s : State) (r : Nat) : (s.succeed r).answer = s.answer := rfl

@[simp] theorem State.raise_opa (s : State) (e : Err) : (s.raise e).opa = s.opa := rfl
@[simp] theorem State.raise_opb (s : State) (e : Err) : (s.raise e).opb = s.opb := rfl
@[simp] theorem State.raise_res (s : State) (e : Err) : (s.raise e).res = 0 := rfl
@[simp] theorem State.raise_code (s : State) (e : Err) : (s.raise e).code = e.code := rfl
@[simp] theorem State.raise_pending (s : State) (e : Err) : (s.raise e).pending = s.pending := rfl
@[simp] theorem State.raise_answer (s : State) (e : Err) : (s.raise e).answer = s.answer := rfl

@[simp] theorem State.setPending_opa (s : State) (es : List Event) : (s.setPending es).opa = s.opa := rfl
@[simp] theorem State.setPending_opb (s : State) (es : List Event) : (s.setPending es).opb = s.opb := rfl
@[simp] theorem State.setPending_res (s : State) (es : List Event) : (s.setPending es).res = s.res := rfl
@[simp] theorem State.setPending_code (s : State) (es : List Event) : (s.setPending es).code = s.code := rfl
@[simp] theorem State.setPending_pending (s : State) (es : List Event) : (s.setPending es).pending = es := rfl
@[simp] theorem State.setPending_answer (s : State) (es : List Event) : (s.setPending es).answer = s.answer := rfl

@[simp] theorem State.reply_opa (s : State) (a : Answer) : (s.reply a).opa = s.opa := rfl
@[simp] theorem State.reply_opb (s : State) (a : Answer) : (s.reply a).opb = s.opb := rfl
@[simp] theorem State.reply_res (s : State) (a : Answer) : (s.reply a).res = s.res := rfl
@[simp] theorem State.reply_code (s : State) (a : Answer) : (s.reply a).code = s.code := rfl
@[simp] theorem State.reply_pending (s : State) (a : Answer) : (s.reply a).pending = s.pending := rfl
@[simp] theorem State.reply_answer (s : State) (a : Answer) : (s.reply a).answer = a := rfl

@[simp] theorem State.writeOpa_opa (s : State) (k : Fin 3) (v : Limb) : (s.writeOpa k v).opa = setLimb s.opa k v := rfl
@[simp] theorem State.writeOpa_opb (s : State) (k : Fin 3) (v : Limb) : (s.writeOpa k v).opb = s.opb := rfl
@[simp] theorem State.writeOpa_res (s : State) (k : Fin 3) (v : Limb) : (s.writeOpa k v).res = s.res := rfl
@[simp] theorem State.writeOpa_code (s : State) (k : Fin 3) (v : Limb) : (s.writeOpa k v).code = s.code := rfl
@[simp] theorem State.writeOpa_pending (s : State) (k : Fin 3) (v : Limb) : (s.writeOpa k v).pending = s.pending := rfl
@[simp] theorem State.writeOpa_answer (s : State) (k : Fin 3) (v : Limb) : (s.writeOpa k v).answer = s.answer := rfl

@[simp] theorem State.writeOpb_opa (s : State) (k : Fin 3) (v : Limb) : (s.writeOpb k v).opa = s.opa := rfl
@[simp] theorem State.writeOpb_opb (s : State) (k : Fin 3) (v : Limb) : (s.writeOpb k v).opb = setLimb s.opb k v := rfl
@[simp] theorem State.writeOpb_res (s : State) (k : Fin 3) (v : Limb) : (s.writeOpb k v).res = s.res := rfl
@[simp] theorem State.writeOpb_code (s : State) (k : Fin 3) (v : Limb) : (s.writeOpb k v).code = s.code := rfl
@[simp] theorem State.writeOpb_pending (s : State) (k : Fin 3) (v : Limb) : (s.writeOpb k v).pending = s.pending := rfl
@[simp] theorem State.writeOpb_answer (s : State) (k : Fin 3) (v : Limb) : (s.writeOpb k v).answer = s.answer := rfl

@[simp] theorem State.applyReset_opa (s : State) : (s.applyReset).opa = 0 := rfl
@[simp] theorem State.applyReset_opb (s : State) : (s.applyReset).opb = 0 := rfl
@[simp] theorem State.applyReset_res (s : State) : (s.applyReset).res = 0 := rfl
@[simp] theorem State.applyReset_code (s : State) : (s.applyReset).code = 0 := rfl
@[simp] theorem State.applyReset_pending (s : State) : (s.applyReset).pending = s.pending := rfl
@[simp] theorem State.applyReset_answer (s : State) : (s.applyReset).answer = .idle := rfl

@[simp] theorem State.okWith_opa (s : State) (r : Nat) : (s.okWith r).opa = s.opa := rfl
@[simp] theorem State.okWith_opb (s : State) (r : Nat) : (s.okWith r).opb = s.opb := rfl
@[simp] theorem State.okWith_res (s : State) (r : Nat) : (s.okWith r).res = BitVec.ofNat 192 r := rfl
@[simp] theorem State.okWith_code (s : State) (r : Nat) : (s.okWith r).code = 0 := rfl
@[simp] theorem State.okWith_pending (s : State) (r : Nat) : (s.okWith r).pending = s.pending := rfl
@[simp] theorem State.okWith_answer (s : State) (r : Nat) : (s.okWith r).answer = s.answer := rfl

@[simp] theorem State.errWith_opa (s : State) (c : BitVec 3) : (s.errWith c).opa = s.opa := rfl
@[simp] theorem State.errWith_opb (s : State) (c : BitVec 3) : (s.errWith c).opb = s.opb := rfl
@[simp] theorem State.errWith_res (s : State) (c : BitVec 3) : (s.errWith c).res = 0 := rfl
@[simp] theorem State.errWith_code (s : State) (c : BitVec 3) : (s.errWith c).code = c := rfl
@[simp] theorem State.errWith_pending (s : State) (c : BitVec 3) : (s.errWith c).pending = s.pending := rfl
@[simp] theorem State.errWith_answer (s : State) (c : BitVec 3) : (s.errWith c).answer = s.answer := rfl

end Sys2Proof.Machine
end

