-- ==== Sys2Proof/Laws/Ops.lean ====
section
/-! SUPPORT. For each shared operation, what it can do, said once: the operand form, the two command
frames, the end of a command, the limbs of a register, the selection of a window register. -/

namespace Sys2Proof.Machine

/-! ### Operands and the frame of a command -/

/-- A 192-bit operand is the whole register; no check applies (30_encoding.md R48). -/
@[simp] theorem operand_w192 (v : Wide) : operand .w192 v = .ok v.toNat := by
  simp [operand]

/-- A 128-bit operand below `2^128` is the register's value. -/
theorem operand_w128_of_lt {v : Wide} (h : v.toNat < 2 ^ 128) : operand .w128 v = .ok v.toNat := by
  have h' : ¬ 2 ^ 128 ≤ v.toNat := Nat.not_le.mpr h
  simp only [operand, h', and_false, if_false]

/-- A 128-bit operand of `2^128` or more is a `FormatError` (60_exceptions.md R141). -/
theorem operand_w128_of_ge {v : Wide} (h : 2 ^ 128 ≤ v.toNat) :
    operand .w128 v = .error .formatError := by
  simp only [operand, h, and_self, if_true]

/-- An operand read either gives the register's value or a `FormatError`, nothing else. -/
theorem operand_cases (w : Width) (v : Wide) :
    operand w v = .ok v.toNat ∨ operand w v = .error .formatError := by
  unfold operand
  split
  · exact .inr rfl
  · exact .inl rfl

/-- A two-operand command answers the next state in which its rule's outcome is recorded. -/
theorem binaryCommand_next {w : Width} {f : Nat → Nat → Except Err Nat} {s t : State}
    (h : binaryCommand w f s = .next t) :
    t = s.finish (operand w s.opa >>= fun a => operand w s.opb >>= fun b => f a b) :=
  (Host.Outcome.next.inj h).symm

/-- A one-operand command answers the next state in which its rule's outcome is recorded. -/
theorem unaryCommand_next {w : Width} {f : Nat → Except Err Nat} {s t : State}
    (h : unaryCommand w f s = .next t) : t = s.finish (operand w s.opa >>= f) :=
  (Host.Outcome.next.inj h).symm

/-- A two-operand command of width 192: its rule on both registers. -/
theorem binaryCommand_w192 (f : Nat → Nat → Except Err Nat) (s : State) :
    binaryCommand .w192 f s = .next (s.finish (f s.opa.toNat s.opb.toNat)) := by
  simp only [binaryCommand, operand_w192]; rfl

/-- A two-operand command of width 128: `FormatError`, or its rule on both registers. -/
theorem binaryCommand_w128 (f : Nat → Nat → Except Err Nat) (s : State) :
    binaryCommand .w128 f s = .next (
      if 2 ^ 128 ≤ s.opa.toNat ∨ 2 ^ 128 ≤ s.opb.toNat then s.raise .formatError
      else s.finish (f s.opa.toNat s.opb.toNat)) := by
  by_cases ha : 2 ^ 128 ≤ s.opa.toNat
  · rw [if_pos (.inl ha), binaryCommand, operand_w128_of_ge ha]; rfl
  · by_cases hb : 2 ^ 128 ≤ s.opb.toNat
    · rw [if_pos (.inr hb), binaryCommand, operand_w128_of_lt (Nat.not_le.mp ha), operand_w128_of_ge hb]; rfl
    · rw [if_neg (not_or.mpr ⟨ha, hb⟩), binaryCommand, operand_w128_of_lt (Nat.not_le.mp ha),
        operand_w128_of_lt (Nat.not_le.mp hb)]; rfl

/-- A one-operand command of width 192: its rule on `OPA`. -/
theorem unaryCommand_w192 (f : Nat → Except Err Nat) (s : State) :
    unaryCommand .w192 f s = .next (s.finish (f s.opa.toNat)) := by
  simp only [unaryCommand, operand_w192]; rfl

/-- A one-operand command of width 128: `FormatError`, or its rule on `OPA`. -/
theorem unaryCommand_w128 (f : Nat → Except Err Nat) (s : State) :
    unaryCommand .w128 f s = .next (
      if 2 ^ 128 ≤ s.opa.toNat then s.raise .formatError else s.finish (f s.opa.toNat)) := by
  by_cases ha : 2 ^ 128 ≤ s.opa.toNat
  · rw [if_pos ha, unaryCommand, operand_w128_of_ge ha]; rfl
  · rw [if_neg ha, unaryCommand, operand_w128_of_lt (Nat.not_le.mp ha)]; rfl

/-! ### The end of a command -/

/-- Success in the words of the statements. -/
theorem State.finish_ok (s : State) (r : Nat) : s.finish (.ok r) = s.okWith r := rfl

/-- An error in the words of the statements. -/
theorem State.finish_error (s : State) (e : Err) : s.finish (.error e) = s.errWith e.code := rfl

/-- `raise` in the words of the statements. -/
theorem State.raise_eq (s : State) (e : Err) : s.raise e = s.errWith e.code := rfl

/-- A command's end leaves the operands and the host's side alone. -/
@[simp] theorem State.finish_opa (s : State) (o : Except Err Nat) : (s.finish o).opa = s.opa := by
  cases o <;> rfl

@[simp] theorem State.finish_opb (s : State) (o : Except Err Nat) : (s.finish o).opb = s.opb := by
  cases o <;> rfl

@[simp] theorem State.finish_pending (s : State) (o : Except Err Nat) :
    (s.finish o).pending = s.pending := by
  cases o <;> rfl

@[simp] theorem State.finish_answer (s : State) (o : Except Err Nat) :
    (s.finish o).answer = s.answer := by
  cases o <;> rfl

/-- An error's code is one of 1 to 6 (60_exceptions.md R135). -/
theorem Err.code_range (e : Err) : 1 ≤ e.code.toNat ∧ e.code.toNat ≤ 6 := by
  cases e <;> decide

/-! ### The limbs of a register -/

/-- There are three limbs. -/
theorem limbIndex_cases (k : Fin 3) : k = 0 ∨ k = 1 ∨ k = 2 := by
  match k with
  | 0 => exact .inl rfl
  | 1 => exact .inr (.inl rfl)
  | 2 => exact .inr (.inr rfl)

/-- A register is the sum of its limbs (10_state.md R10). -/
theorem limb_sum (v : Wide) :
    v.toNat = (limb v 0).toNat + 2 ^ 64 * (limb v 1).toNat + 2 ^ 128 * (limb v 2).toNat := by
  have h : v.toNat < 2 ^ 192 := v.isLt
  simp only [limb, BitVec.extractLsb'_toNat, Nat.shiftRight_eq_div_pow]
  norm_num at *
  omega

/-- Two registers with the same limbs are the same. -/
theorem eq_of_limbs {v u : Wide} (h : ∀ k, limb v k = limb u k) : v = u := by
  apply BitVec.eq_of_toNat_eq
  rw [limb_sum v, limb_sum u, h 0, h 1, h 2]

/-- The number a limb write leaves in the register (20_memory.md R34). -/
theorem setLimb_toNat (v : Wide) (k : Fin 3) (x : Limb) :
    (setLimb v k x).toNat =
      v.toNat - (limb v k).toNat * 2 ^ (64 * k.val) + x.toNat * 2 ^ (64 * k.val) := by
  have hv := limb_sum v
  have h0 := (limb v 0).isLt
  have h1 := (limb v 1).isLt
  have h2 := (limb v 2).isLt
  have hx := x.isLt
  rw [setLimb, BitVec.toNat_ofNat, Nat.mod_eq_of_lt]
  match k with
  | 0 => norm_num at *; omega
  | 1 => norm_num at *; omega
  | 2 => norm_num at *; omega

/-- After a limb write that limb reads as written and the other two as before (20_memory.md R34). -/
theorem limb_setLimb (v : Wide) (k j : Fin 3) (x : Limb) :
    limb (setLimb v k x) j = if j = k then x else limb v j := by
  have hn := setLimb_toNat v k x
  have hs := limb_sum (setLimb v k x)
  have hv := limb_sum v
  have a0 := (limb v 0).isLt
  have a1 := (limb v 1).isLt
  have a2 := (limb v 2).isLt
  have b0 := (limb (setLimb v k x) 0).isLt
  have b1 := (limb (setLimb v k x) 1).isLt
  have b2 := (limb (setLimb v k x) 2).isLt
  have hx := x.isLt
  rw [hs, hv] at hn
  apply BitVec.eq_of_toNat_eq
  obtain rfl | rfl | rfl := limbIndex_cases k <;> obtain rfl | rfl | rfl := limbIndex_cases j <;>
    first
      | (rw [if_pos rfl]; norm_num at *; omega)
      | (rw [if_neg (by decide)]; norm_num at *; omega)

/-! ### The register an access selects -/

/-- The register map read backwards: every register stands at its own offset (20_memory.md R26). -/
theorem selectReg_regOffset (r : WindowReg) : selectReg (regOffset r) 8 = some r := by
  match r with
  | .opa 0 => rfl
  | .opa 1 => rfl
  | .opa 2 => rfl
  | .opb 0 => rfl
  | .opb 1 => rfl
  | .opb 2 => rfl
  | .res 0 => rfl
  | .res 1 => rfl
  | .res 2 => rfl
  | .cmd => rfl
  | .status => rfl
  | .id => rfl

/-- Which register stands at an offset: only the one whose offset it is (20_memory.md R26, R27). -/
theorem regAt_eq_some {o : Nat} {r : WindowReg} (h : regAt o = some r) : (o : Int) = regOffset r := by
  unfold regAt at h
  split at h <;> first | (cases h; rfl) | cases h

/-- An access selects a register exactly when it is 8 bytes wide at that register's offset
(20_memory.md R26, R30). -/
theorem selectReg_eq_some {o : Int} {n : Nat} {r : WindowReg} :
    selectReg o n = some r ↔ n = 8 ∧ o = regOffset r := by
  constructor
  · intro h
    unfold selectReg at h
    split at h
    · cases h
    · rename_i hc
      simp only [not_or, not_not, not_lt, not_le] at hc
      have := regAt_eq_some h
      omega
  · rintro ⟨rfl, rfl⟩
    exact selectReg_regOffset r

/-! ### The port -/

/-- A read answers a value exactly when the access selects a readable register, and then that
register's content (20_memory.md R33). -/
theorem portRead_eq_ok {o : Int} {n : Nat} {s : State} {v : Limb} :
    portRead o n s = .ok v ↔ ∃ r, n = 8 ∧ o = regOffset r ∧ readReg s r = some v := by
  unfold portRead
  constructor
  · intro h
    split at h
    · rename_i x hx
      obtain ⟨r, hr, hv⟩ := Option.bind_eq_some_iff.mp hx
      cases h
      exact ⟨r, (selectReg_eq_some.mp hr).1, (selectReg_eq_some.mp hr).2, hv⟩
    · cases h
  · rintro ⟨r, rfl, rfl, hv⟩
    simp only [selectReg_regOffset, Option.bind_some, hv]

/-- A write is accepted exactly when the access selects a writable register, and then does what a write
to that register does (20_memory.md R34). -/
theorem portWrite_eq_ok {o : Int} {n : Nat} {v : Limb} {s : State} {t : Host.Outcome State Fault Refusal} :
    portWrite o n v s = .ok t ↔ ∃ r, n = 8 ∧ o = regOffset r ∧ writeReg s r v = some t := by
  unfold portWrite
  constructor
  · intro h
    split at h
    · rename_i x hx
      obtain ⟨r, hr, hv⟩ := Option.bind_eq_some_iff.mp hx
      cases h
      exact ⟨r, (selectReg_eq_some.mp hr).1, (selectReg_eq_some.mp hr).2, hv⟩
    · cases h
  · rintro ⟨r, rfl, rfl, hv⟩
    simp only [selectReg_regOffset, Option.bind_some, hv]

/-- A read performed: the state as it was, with the answer recorded. -/
theorem perform_read (o : Int) (n : Nat) (s : State) :
    ∃ a, perform (.read o n) s = .next (s.reply a) := by
  cases h : portRead o n s with
  | ok v => exact ⟨.data v, by simp only [perform, h]⟩
  | error f => exact ⟨.refused f, by simp only [perform, h]⟩

/-- What performing a write can do: replace a limb of an operand, execute a command, or be refused. -/
theorem perform_write (o : Int) (n : Nat) (v : Limb) (s : State) :
    (∃ k, n = 8 ∧ o = regOffset (.opa k) ∧
      perform (.write o n v) s = .next ((s.reply .done).writeOpa k v)) ∨
    (∃ k, n = 8 ∧ o = regOffset (.opb k) ∧
      perform (.write o n v) s = .next ((s.reply .done).writeOpb k v)) ∨
    (n = 8 ∧ o = regOffset .cmd ∧ perform (.write o n v) s = execute v (s.reply .done)) ∨
    perform (.write o n v) s = .next (s.reply (.refused .busError)) := by
  cases h : portWrite o n v (s.reply .done) with
  | error f => cases f; exact .inr (.inr (.inr (by simp only [perform, h])))
  | ok t =>
    obtain ⟨r, hn, ho, hr⟩ := portWrite_eq_ok.mp h
    cases r with
    | opa k =>
      cases hr
      exact .inl ⟨k, hn, ho, by simp only [perform, h]⟩
    | opb k =>
      cases hr
      exact .inr (.inl ⟨k, hn, ho, by simp only [perform, h]⟩)
    | cmd =>
      cases hr
      exact .inr (.inr (.inl ⟨hn, ho, by simp only [perform, h]⟩))
    | res k => cases hr
    | status => cases hr
    | id => cases hr

end Sys2Proof.Machine
end

