-- ==== Sys2Proof/Laws/Step.lean ====
section
/-! SUPPORT. What a command, an execution and a step can do, each said once; and the squaring loop as
the rules unroll it, free of its count of rounds. -/

namespace Sys2Proof.Machine

/-- A two-operand command records some outcome and does nothing else. -/
theorem binaryCommand_finishes (w : Width) (f : Nat → Nat → Except Err Nat) (s : State) :
    ∃ o, binaryCommand w f s = .next (s.finish o) := ⟨_, rfl⟩

/-- A one-operand command records some outcome and does nothing else. -/
theorem unaryCommand_finishes (w : Width) (f : Nat → Except Err Nat) (s : State) :
    ∃ o, unaryCommand w f s = .next (s.finish o) := ⟨_, rfl⟩

/-- Every command records some outcome and does nothing else (60_exceptions.md R143, R144). -/
theorem exec_finishes (i : Instr) (s : State) : ∃ o, exec i s = .next (s.finish o) := by
  cases i <;> first
    | exact binaryCommand_finishes _ _ s
    | exact unaryCommand_finishes _ _ s

/-- Every command word records some outcome and does nothing else (30_encoding.md R55). -/
theorem execute_finishes (w : CmdWord) (s : State) : ∃ o, execute w s = .next (s.finish o) := by
  unfold execute
  split
  · exact exec_finishes _ s
  · exact ⟨.error .illegalCommand, rfl⟩

/-- What one step can do: nothing is pending and nothing changes; a reset; an access that leaves every
register alone; a limb of an operand written; a command executed. -/
theorem step_cases (s : State) :
    (s.pending = [] ∧ step s = .next s) ∨
    (∃ rest, s.pending = .reset :: rest ∧ step s = .next (State.reset.setPending rest)) ∨
    (∃ a rest ans, s.pending = .access a :: rest ∧ step s = .next ((s.setPending rest).reply ans)) ∨
    (∃ a rest k v, s.pending = .access a :: rest ∧
      step s = .next (((s.setPending rest).reply .done).writeOpa k v)) ∨
    (∃ a rest k v, s.pending = .access a :: rest ∧
      step s = .next (((s.setPending rest).reply .done).writeOpb k v)) ∨
    (∃ a rest o, s.pending = .access a :: rest ∧
      step s = .next (((s.setPending rest).reply .done).finish o)) := by
  unfold step serveNext
  cases hp : s.pending with
  | nil => exact .inl ⟨rfl, rfl⟩
  | cons e rest =>
    refine .inr ?_
    cases e with
    | reset => exact .inl ⟨rest, rfl, rfl⟩
    | access a =>
      refine .inr ?_
      cases a with
      | read o n =>
        obtain ⟨ans, h⟩ := perform_read o n (s.setPending rest)
        exact .inl ⟨_, rest, ans, rfl, h⟩
      | write o n v =>
        obtain ⟨k, -, -, h⟩ | ⟨k, -, -, h⟩ | ⟨-, -, h⟩ | h := perform_write o n v (s.setPending rest)
        · exact .inr (.inl ⟨_, rest, k, v, rfl, h⟩)
        · exact .inr (.inr (.inl ⟨_, rest, k, v, rfl, h⟩))
        · obtain ⟨oc, ho⟩ := execute_finishes v ((s.setPending rest).reply .done)
          exact .inr (.inr (.inr ⟨_, rest, oc, rfl, h.trans ho⟩))
        · exact .inl ⟨_, rest, .refused .busError, rfl, h⟩

/-! ### The squaring loop -/

/-- Rounds beyond the exponent's bit length make no difference. -/
theorem powLoop_rounds (mul : Nat → Nat → Except Err Nat) :
    ∀ (r r' acc base n : Nat), n < 2 ^ r → n < 2 ^ r' →
      powLoop mul r acc base n = powLoop mul r' acc base n
  | 0, 0, _, _, _, _, _ => rfl
  | 0, r' + 1, acc, base, n, h, _ => by
    obtain rfl : n = 0 := by simpa using h
    simp [powLoop]
  | r + 1, 0, acc, base, n, _, h => by
    obtain rfl : n = 0 := by simpa using h
    simp [powLoop]
  | r + 1, r' + 1, acc, base, n, h, h' => by
    have hn : n / 2 < 2 ^ r := by rw [Nat.pow_succ] at h; omega
    have hn' : n / 2 < 2 ^ r' := by rw [Nat.pow_succ] at h'; omega
    simp only [powLoop]
    split
    · rfl
    · congr 1
      funext acc'
      split
      · rfl
      · congr 1
        funext base'
        exact powLoop_rounds mul r r' acc' base' (n / 2) hn hn'

/-- An exponent of zero: the accumulator as it is (40_wide_integer.md R64, 41_scaled_arith.md R95). -/
@[simp] theorem powFrom_zero (mul : Nat → Nat → Except Err Nat) (acc base : Nat) :
    powFrom mul acc base 0 = .ok acc := by
  simp [powFrom, powLoop]

/-- One round of the loop, as the rules write it (40_wide_integer.md R64, 41_scaled_arith.md R95). -/
theorem powFrom_round (mul : Nat → Nat → Except Err Nat) (acc base n : Nat) (hn : n ≠ 0) :
    powFrom mul acc base n = (do
      let acc' ← (if n % 2 = 1 then mul acc base else .ok acc)
      if n / 2 = 0 then .ok acc' else do
        let base' ← mul base base
        powFrom mul acc' base' (n / 2)) := by
  have hlt : n < 2 ^ (n.log2 + 1) := (Nat.log2_lt hn).mp (Nat.lt_succ_self _)
  have hhalf : n / 2 < 2 ^ n.log2 := by rw [Nat.pow_succ] at hlt; omega
  rw [powFrom]
  simp only [powLoop, hn, if_false]
  congr 1
  funext acc'
  split
  · rfl
  · rename_i h2
    congr 1
    funext base'
    exact powLoop_rounds mul _ _ acc' base' (n / 2) hhalf
      ((Nat.log2_lt h2).mp (Nat.lt_succ_self _))

end Sys2Proof.Machine
end

