-- ==== Sys2Proof/Laws/Helpers.lean ====
section
/-! SUPPORT. The helpers of 40_wide_integer.md, 41_scaled_arith.md and 42_scaled_convert.md with their
numbers written out, one equation per width or type, so that no later proof unfolds a parameter. -/

namespace Sys2Proof.Machine

/-- A rule goes on with the value it has reached. -/
theorem ok_bind (x : Nat) (f : Nat → Except Err Nat) : (Except.ok x >>= f) = f x := rfl

/-- A rule stops at the first error. -/
theorem error_bind (e : Err) (f : Nat → Except Err Nat) :
    ((Except.error e : Except Err Nat) >>= f) = .error e := rfl

/-! ### The Wide Integer Core -/

theorem checkedAdd_w192 (a b : Nat) :
    checkedAdd .w192 a b = if 2 ^ 192 ≤ a + b then .error .overflow else .ok (a + b) := rfl

theorem checkedAdd_w128 (a b : Nat) :
    checkedAdd .w128 a b = if 2 ^ 128 ≤ a + b then .error .overflow else .ok (a + b) := rfl

theorem checkedMul_w192 (a b : Nat) :
    checkedMul .w192 a b = if 2 ^ 192 ≤ a * b then .error .overflow else .ok (a * b) := rfl

theorem checkedMul_w128 (a b : Nat) :
    checkedMul .w128 a b = if 2 ^ 128 ≤ a * b then .error .overflow else .ok (a * b) := rfl

theorem shl_w192 (a n : Nat) : shl .w192 a n = if 192 ≤ n then 0 else a * 2 ^ n % 2 ^ 192 := rfl

theorem shl_w128 (a n : Nat) : shl .w128 a n = if 128 ≤ n then 0 else a * 2 ^ n % 2 ^ 128 := rfl

theorem shr_w192 (a n : Nat) : shr .w192 a n = if 192 ≤ n then 0 else a / 2 ^ n := rfl

theorem shr_w128 (a n : Nat) : shr .w128 a n = if 128 ≤ n then 0 else a / 2 ^ n := rfl

/-! ### The scaled types -/

theorem maxRaw_d : maxRaw .d = 18446744073709551615000000000000000000 := rfl

theorem maxRaw_r : maxRaw .r = 25500000000 := rfl

theorem inDomain_d (v : Nat) :
    inDomain .d v = if 18446744073709551615000000000000000000 < v then .error .overflow else .ok v := rfl

theorem inDomain_r (v : Nat) :
    inDomain .r v = if 25500000000 < v then .error .overflow else .ok v := rfl

/-- The two tests of `ScaledAdd` are the one against the ceiling (41_scaled_arith.md R91). -/
theorem scaledAdd_d (a b : Nat) :
    scaledAdd .d a b =
      if 18446744073709551615000000000000000000 < a + b then .error .overflow else .ok (a + b) := by
  show (checkedAdd .w192 a b >>= inDomain .d) = _
  rw [checkedAdd_w192]
  split
  · rw [if_pos (by omega)]; rfl
  · exact inDomain_d (a + b)

theorem scaledAdd_r (a b : Nat) :
    scaledAdd .r a b = if 25500000000 < a + b then .error .overflow else .ok (a + b) := by
  show (checkedAdd .w128 a b >>= inDomain .r) = _
  rw [checkedAdd_w128]
  split
  · rw [if_pos (by omega)]; rfl
  · exact inDomain_r (a + b)

theorem scaledSub_d (a b : Nat) :
    scaledSub .d a b =
      if a < b then .error .underflow
      else if 18446744073709551615000000000000000000 < a - b then .error .overflow else .ok (a - b) := by
  show (checkedSub a b >>= inDomain .d) = _
  rw [checkedSub]
  split
  · rfl
  · exact inDomain_d (a - b)

theorem scaledSub_r (a b : Nat) :
    scaledSub .r a b =
      if a < b then .error .underflow
      else if 25500000000 < a - b then .error .overflow else .ok (a - b) := by
  show (checkedSub a b >>= inDomain .r) = _
  rw [checkedSub]
  split
  · rfl
  · exact inDomain_r (a - b)

theorem scaledMul_d (a b : Nat) :
    scaledMul .d a b =
      if 2 ^ 192 ≤ a * b then .error .overflow
      else if 18446744073709551615000000000000000000 < a * b / 10 ^ 18 then .error .overflow
      else .ok (a * b / 10 ^ 18) := by
  show (checkedMul .w192 a b >>= fun p => inDomain .d (p / 10 ^ 18)) = _
  rw [checkedMul_w192]
  split
  · rfl
  · exact inDomain_d (a * b / 10 ^ 18)

theorem scaledMul_r (a b : Nat) :
    scaledMul .r a b =
      if 2 ^ 128 ≤ a * b then .error .overflow
      else if 25500000000 < a * b / 10 ^ 8 then .error .overflow
      else .ok (a * b / 10 ^ 8) := by
  show (checkedMul .w128 a b >>= fun p => inDomain .r (p / 10 ^ 8)) = _
  rw [checkedMul_w128]
  split
  · rfl
  · exact inDomain_r (a * b / 10 ^ 8)

theorem scaledDiv_d (a b : Nat) :
    scaledDiv .d a b =
      if b = 0 then .error .divisionByZero
      else if 2 ^ 192 ≤ a * 10 ^ 18 then .error .overflow
      else if 18446744073709551615000000000000000000 < a * 10 ^ 18 / b then .error .overflow
      else .ok (a * 10 ^ 18 / b) := by
  rw [scaledDiv, show backing .d = .w192 from rfl, show scale .d = 10 ^ 18 from rfl, checkedMul_w192]
  split
  · rfl
  · split
    · rw [error_bind]
    · rw [ok_bind]; exact inDomain_d (a * 10 ^ 18 / b)

theorem scaledDiv_r (a b : Nat) :
    scaledDiv .r a b =
      if b = 0 then .error .divisionByZero
      else if 2 ^ 128 ≤ a * 10 ^ 8 then .error .overflow
      else if 25500000000 < a * 10 ^ 8 / b then .error .overflow
      else .ok (a * 10 ^ 8 / b) := by
  rw [scaledDiv, show backing .r = .w128 from rfl, show scale .r = 10 ^ 8 from rfl, checkedMul_w128]
  split
  · rfl
  · split
    · rw [error_bind]
    · rw [ok_bind]; exact inDomain_r (a * 10 ^ 8 / b)

/-! ### The conversions -/

theorem fromInteger_d (n : Nat) :
    fromInteger .d n = if 2 ^ 64 - 1 < n then .error .overflow else .ok (n * 10 ^ 18) := rfl

theorem fromInteger_r (n : Nat) :
    fromInteger .r n = if 255 < n then .error .overflow else .ok (n * 10 ^ 8) := rfl

theorem toFloor_d (a : Nat) : toFloor .d a = a / 10 ^ 18 := rfl

theorem toFloor_r (a : Nat) : toFloor .r a = a / 10 ^ 8 := rfl

theorem toCeil_d (a : Nat) :
    toCeil .d a = if a % 10 ^ 18 = 0 then a / 10 ^ 18 else a / 10 ^ 18 + 1 := rfl

theorem toCeil_r (a : Nat) :
    toCeil .r a = if a % 10 ^ 8 = 0 then a / 10 ^ 8 else a / 10 ^ 8 + 1 := rfl

theorem decimalToRate_eq (a : Nat) :
    decimalToRate a = if 255 * 10 ^ 18 < a then .error .rangeError else .ok (a / 10 ^ 10) := rfl

/-- The checked multiply of `RateToDecimal` cannot fail below `2^128`; the ceiling decides
(42_scaled_convert.md R113). -/
theorem rateToDecimal_of_lt {a : Nat} (h : a < 2 ^ 128) :
    rateToDecimal a =
      if 18446744073709551615000000000000000000 < a * 10 ^ 10 then .error .overflow
      else .ok (a * 10 ^ 10) := by
  rw [rateToDecimal, show bridge = 10 ^ 10 from rfl, checkedMul_w192, if_neg (by omega), ok_bind]
  exact inDomain_d (a * 10 ^ 10)

end Sys2Proof.Machine
end

