-- ==== Sys2Proof/Laws/PerInstr.lean ====
section
/-! SUPPORT. Statements made per instruction (LAWS.json): the round trip of one command through its word,
one lemma per constructor. -/

namespace Sys2Proof.Laws

/-- The command is well formed, its word decodes to it, and the eight bytes of that word do
(30_encoding.md R47, 20_memory.md R28). -/
def RoundTrip.Statement (i : Instr) : Prop :=
  i.wellFormed = true ∧ decode (encode i) = .ok i ∧ decodeBytes (bytesOfWord (encode i)) = .ok i

theorem RoundTrip.wadd192 : RoundTrip.Statement .wadd192 := ⟨rfl, by decide, by decide⟩
theorem RoundTrip.wsub192 : RoundTrip.Statement .wsub192 := ⟨rfl, by decide, by decide⟩
theorem RoundTrip.wmul192 : RoundTrip.Statement .wmul192 := ⟨rfl, by decide, by decide⟩
theorem RoundTrip.wdiv192 : RoundTrip.Statement .wdiv192 := ⟨rfl, by decide, by decide⟩
theorem RoundTrip.wpow192 : RoundTrip.Statement .wpow192 := ⟨rfl, by decide, by decide⟩
theorem RoundTrip.wshl192 : RoundTrip.Statement .wshl192 := ⟨rfl, by decide, by decide⟩
theorem RoundTrip.wshr192 : RoundTrip.Statement .wshr192 := ⟨rfl, by decide, by decide⟩
theorem RoundTrip.wcmp192 : RoundTrip.Statement .wcmp192 := ⟨rfl, by decide, by decide⟩
theorem RoundTrip.saddD : RoundTrip.Statement .saddD := ⟨rfl, by decide, by decide⟩
theorem RoundTrip.ssubD : RoundTrip.Statement .ssubD := ⟨rfl, by decide, by decide⟩
theorem RoundTrip.smulD : RoundTrip.Statement .smulD := ⟨rfl, by decide, by decide⟩
theorem RoundTrip.sdivD : RoundTrip.Statement .sdivD := ⟨rfl, by decide, by decide⟩
theorem RoundTrip.spowD : RoundTrip.Statement .spowD := ⟨rfl, by decide, by decide⟩
theorem RoundTrip.sfromintD : RoundTrip.Statement .sfromintD := ⟨rfl, by decide, by decide⟩
theorem RoundTrip.stofloorD : RoundTrip.Statement .stofloorD := ⟨rfl, by decide, by decide⟩
theorem RoundTrip.stoceilD : RoundTrip.Statement .stoceilD := ⟨rfl, by decide, by decide⟩
theorem RoundTrip.scvtD2R : RoundTrip.Statement .scvtD2R := ⟨rfl, by decide, by decide⟩
theorem RoundTrip.wadd128 : RoundTrip.Statement .wadd128 := ⟨rfl, by decide, by decide⟩
theorem RoundTrip.wsub128 : RoundTrip.Statement .wsub128 := ⟨rfl, by decide, by decide⟩
theorem RoundTrip.wmul128 : RoundTrip.Statement .wmul128 := ⟨rfl, by decide, by decide⟩
theorem RoundTrip.wdiv128 : RoundTrip.Statement .wdiv128 := ⟨rfl, by decide, by decide⟩
theorem RoundTrip.wpow128 : RoundTrip.Statement .wpow128 := ⟨rfl, by decide, by decide⟩
theorem RoundTrip.wshl128 : RoundTrip.Statement .wshl128 := ⟨rfl, by decide, by decide⟩
theorem RoundTrip.wshr128 : RoundTrip.Statement .wshr128 := ⟨rfl, by decide, by decide⟩
theorem RoundTrip.wcmp128 : RoundTrip.Statement .wcmp128 := ⟨rfl, by decide, by decide⟩
theorem RoundTrip.saddR : RoundTrip.Statement .saddR := ⟨rfl, by decide, by decide⟩
theorem RoundTrip.ssubR : RoundTrip.Statement .ssubR := ⟨rfl, by decide, by decide⟩
theorem RoundTrip.smulR : RoundTrip.Statement .smulR := ⟨rfl, by decide, by decide⟩
theorem RoundTrip.sdivR : RoundTrip.Statement .sdivR := ⟨rfl, by decide, by decide⟩
theorem RoundTrip.spowR : RoundTrip.Statement .spowR := ⟨rfl, by decide, by decide⟩
theorem RoundTrip.sfromintR : RoundTrip.Statement .sfromintR := ⟨rfl, by decide, by decide⟩
theorem RoundTrip.stofloorR : RoundTrip.Statement .stofloorR := ⟨rfl, by decide, by decide⟩
theorem RoundTrip.stoceilR : RoundTrip.Statement .stoceilR := ⟨rfl, by decide, by decide⟩
theorem RoundTrip.scvtR2D : RoundTrip.Statement .scvtR2D := ⟨rfl, by decide, by decide⟩

end Sys2Proof.Laws
end

