-- ==== Sys2Proof/Laws/Script.lean ====
section
/-! SUPPORT. The host's side: what one read or write of a named register does, a copy of three limbs,
and the same accesses by address. -/

namespace Sys2Proof.Machine

/-- Reading a register that can be read answers its content and changes nothing else
(20_memory.md R32, R33). -/
theorem perform_read_reg {s : State} {r : WindowReg} {v : Limb} (h : readReg s r = some v) :
    perform (.read (regOffset r) 8) s = .next (s.reply (.data v)) := by
  have h' : portRead (regOffset r) 8 s = .ok v := portRead_eq_ok.mpr ⟨r, rfl, rfl, h⟩
  simp only [perform, h']

/-- Writing one limb of `OPA` by name (20_memory.md R34). -/
theorem perform_write_opa (s : State) (k : Fin 3) (v : Limb) :
    perform (.write (regOffset (.opa k)) 8 v) s = .next ((s.reply .done).writeOpa k v) := by
  have h : portWrite (regOffset (.opa k)) 8 v (s.reply .done) =
      .ok (.next ((s.reply .done).writeOpa k v)) := portWrite_eq_ok.mpr ⟨.opa k, rfl, rfl, rfl⟩
  simp only [perform, h]

/-- Writing one limb of `OPB` by name (20_memory.md R34). -/
theorem perform_write_opb (s : State) (k : Fin 3) (v : Limb) :
    perform (.write (regOffset (.opb k)) 8 v) s = .next ((s.reply .done).writeOpb k v) := by
  have h : portWrite (regOffset (.opb k)) 8 v (s.reply .done) =
      .ok (.next ((s.reply .done).writeOpb k v)) := portWrite_eq_ok.mpr ⟨.opb k, rfl, rfl, rfl⟩
  simp only [perform, h]

/-- Writing `CMD` by name executes (20_memory.md R34, R41). -/
theorem perform_write_cmd (s : State) (w : CmdWord) :
    perform (.write (regOffset .cmd) 8 w) s = execute w (s.reply .done) := by
  have h : portWrite (regOffset .cmd) 8 w (s.reply .done) = .ok (execute w (s.reply .done)) :=
    portWrite_eq_ok.mpr ⟨.cmd, rfl, rfl, rfl⟩
  simp only [perform, h]

/-- Replacing each limb by the limbs of `n` gives `n` (30_encoding.md R54). -/
theorem setLimb_limbs (v n : Wide) :
    setLimb (setLimb (setLimb v 0 (limb n 0)) 1 (limb n 1)) 2 (limb n 2) = n := by
  apply eq_of_limbs
  intro k
  obtain rfl | rfl | rfl := limbIndex_cases k <;> simp [limb_setLimb]

/-- Three limb writes, each an access of its own, load the whole of `OPA` (30_encoding.md R54). -/
theorem writeOpa_limbs (s : State) (n : Wide) :
    (((((s.reply .done).writeOpa 0 (limb n 0)).reply .done).writeOpa 1 (limb n 1)).reply .done).writeOpa 2
      (limb n 2) = { s with opa := n, answer := .done } := by
  unfold State.writeOpa State.reply
  rw [setLimb_limbs]

/-- Three limb writes, each an access of its own, load the whole of `OPB` (30_encoding.md R54). -/
theorem writeOpb_limbs (s : State) (n : Wide) :
    (((((s.reply .done).writeOpb 0 (limb n 0)).reply .done).writeOpb 1 (limb n 1)).reply .done).writeOpb 2
      (limb n 2) = { s with opb := n, answer := .done } := by
  unfold State.writeOpb State.reply
  rw [setLimb_limbs]

/-- One access of a script, then the rest of it. -/
theorem runHost_plain {a : Access} {s t : State} (h : perform a s = .next t) (hs : List HostAccess) :
    runHost (.plain a :: hs) s = runHost hs t := by
  simp only [runHost, resolveAccess, h]

/-- One limb of `RES` copied to `OPA`: a read and a write of the value read (30_encoding.md R54). -/
theorem runHost_copy_opa (s : State) (k : Fin 3) (hs : List HostAccess) :
    runHost (readOf (.res k) :: .writeRead (regOffset (.opa k)) :: hs) s =
      runHost hs ((s.reply .done).writeOpa k (limb s.res k)) := by
  have hr : perform (.read (regOffset (.res k)) 8) s = .next (s.reply (.data (limb s.res k))) :=
    perform_read_reg rfl
  have hw := perform_write_opa (s.reply (.data (limb s.res k))) k (limb s.res k)
  simp only [readOf, runHost, resolveAccess, hr, State.reply_answer, hw]
  rfl

/-- One limb of `RES` copied to `OPB`: a read and a write of the value read (30_encoding.md R54). -/
theorem runHost_copy_opb (s : State) (k : Fin 3) (hs : List HostAccess) :
    runHost (readOf (.res k) :: .writeRead (regOffset (.opb k)) :: hs) s =
      runHost hs ((s.reply .done).writeOpb k (limb s.res k)) := by
  have hr : perform (.read (regOffset (.res k)) 8) s = .next (s.reply (.data (limb s.res k))) :=
    perform_read_reg rfl
  have hw := perform_write_opb (s.reply (.data (limb s.res k))) k (limb s.res k)
  simp only [readOf, runHost, resolveAccess, hr, State.reply_answer, hw]
  rfl

/-- An access by address is the access by offset (20_memory.md R26). -/
theorem memRead_at (o n : Nat) (s : State) : memRead (Config.base + o) n s = portRead o n s := by
  rw [memRead]; congr 1; omega

/-- An access by address is the access by offset (20_memory.md R26). -/
theorem memWrite_at (o n : Nat) (v : Limb) (s : State) :
    memWrite (Config.base + o) n v s = portWrite o n v s := by
  rw [memWrite]; congr 1; omega

end Sys2Proof.Machine
end

