-- ==== Sys2Proof/Tests/Slice0.lean ====
section
/-! SUPPORT. Tests. Every expected value is the spec's: the vectors of 95_test_vectors.md by their ids
(WV, SV, CV, EV, BV, P), the encodings of 30_encoding.md R47, the register map of 20_memory.md R26.
Then, for every statement with hypotheses, a state and operands that meet them. -/

open Sys2Proof Sys2Proof.Machine

namespace Sys2Proof.Tests

/-! ### WellFormed: an ill-formed access for each check -/

/-- Only 8 bytes: not 4, not 16 (BV13, BV19). -/
theorem test_read_wrong_size :
    readWellFormed 0x00 4 = false ∧ readWellFormed 0x00 16 = false := by decide

/-- Only at a multiple of 8 (BV14). -/
theorem test_read_misaligned : readWellFormed 0x04 8 = false := by decide

/-- Not at a reserved offset, not outside the window, not `CMD` (BV7, BV11). -/
theorem test_read_wrong_offset :
    readWellFormed 0x18 8 = false ∧ readWellFormed 0x78 8 = false ∧ readWellFormed 0x80 8 = false ∧
      readWellFormed (-8) 8 = false ∧ readWellFormed 0x60 8 = false := by decide

/-- Only 8 bytes: not 1, 2 or 4 (BV12, BV15). -/
theorem test_write_wrong_size :
    writeWellFormed 0x00 1 = false ∧ writeWellFormed 0x00 2 = false ∧ writeWellFormed 0x60 4 = false := by
  decide

/-- Only at a multiple of 8. -/
theorem test_write_misaligned : writeWellFormed 0x24 8 = false := by decide

/-- Not `RES`, `STATUS`, `ID`, a reserved offset, or outside the window (BV8 to BV11). -/
theorem test_write_wrong_offset :
    writeWellFormed 0x40 8 = false ∧ writeWellFormed 0x68 8 = false ∧ writeWellFormed 0x70 8 = false ∧
      writeWellFormed 0x38 8 = false ∧ writeWellFormed 0x80 8 = false := by decide

/-- Every accepted direction has an offset that is accepted. -/
theorem test_accepted_accesses :
    readWellFormed 0x00 8 = true ∧ readWellFormed 0x70 8 = true ∧ writeWellFormed 0x30 8 = true ∧
      writeWellFormed 0x60 8 = true := by decide

/-! ### Decode: every command's word, field by field: Z2 (63:8), Z1 (7:6), T, CLS, FN (R45 to R47) -/

theorem test_decode_wide192 :
    decode 0b00000000000000000000000000000000000000000000000000000000_00_0_0_0000 = .ok .wadd192 ∧
    decode 0b00000000000000000000000000000000000000000000000000000000_00_0_0_0001 = .ok .wsub192 ∧
    decode 0b00000000000000000000000000000000000000000000000000000000_00_0_0_0010 = .ok .wmul192 ∧
    decode 0b00000000000000000000000000000000000000000000000000000000_00_0_0_0011 = .ok .wdiv192 ∧
    decode 0b00000000000000000000000000000000000000000000000000000000_00_0_0_0100 = .ok .wpow192 ∧
    decode 0b00000000000000000000000000000000000000000000000000000000_00_0_0_0101 = .ok .wshl192 ∧
    decode 0b00000000000000000000000000000000000000000000000000000000_00_0_0_0110 = .ok .wshr192 ∧
    decode 0b00000000000000000000000000000000000000000000000000000000_00_0_0_0111 = .ok .wcmp192 := by
  decide

theorem test_decode_scaled_d :
    decode 0b00000000000000000000000000000000000000000000000000000000_00_0_1_0000 = .ok .saddD ∧
    decode 0b00000000000000000000000000000000000000000000000000000000_00_0_1_0001 = .ok .ssubD ∧
    decode 0b00000000000000000000000000000000000000000000000000000000_00_0_1_0010 = .ok .smulD ∧
    decode 0b00000000000000000000000000000000000000000000000000000000_00_0_1_0011 = .ok .sdivD ∧
    decode 0b00000000000000000000000000000000000000000000000000000000_00_0_1_0100 = .ok .spowD ∧
    decode 0b00000000000000000000000000000000000000000000000000000000_00_0_1_0101 = .ok .sfromintD ∧
    decode 0b00000000000000000000000000000000000000000000000000000000_00_0_1_0110 = .ok .stofloorD ∧
    decode 0b00000000000000000000000000000000000000000000000000000000_00_0_1_0111 = .ok .stoceilD ∧
    decode 0b00000000000000000000000000000000000000000000000000000000_00_0_1_1000 = .ok .scvtD2R := by
  decide

theorem test_decode_wide128 :
    decode 0b00000000000000000000000000000000000000000000000000000000_00_1_0_0000 = .ok .wadd128 ∧
    decode 0b00000000000000000000000000000000000000000000000000000000_00_1_0_0001 = .ok .wsub128 ∧
    decode 0b00000000000000000000000000000000000000000000000000000000_00_1_0_0010 = .ok .wmul128 ∧
    decode 0b00000000000000000000000000000000000000000000000000000000_00_1_0_0011 = .ok .wdiv128 ∧
    decode 0b00000000000000000000000000000000000000000000000000000000_00_1_0_0100 = .ok .wpow128 ∧
    decode 0b00000000000000000000000000000000000000000000000000000000_00_1_0_0101 = .ok .wshl128 ∧
    decode 0b00000000000000000000000000000000000000000000000000000000_00_1_0_0110 = .ok .wshr128 ∧
    decode 0b00000000000000000000000000000000000000000000000000000000_00_1_0_0111 = .ok .wcmp128 := by
  decide

theorem test_decode_scaled_r :
    decode 0b00000000000000000000000000000000000000000000000000000000_00_1_1_0000 = .ok .saddR ∧
    decode 0b00000000000000000000000000000000000000000000000000000000_00_1_1_0001 = .ok .ssubR ∧
    decode 0b00000000000000000000000000000000000000000000000000000000_00_1_1_0010 = .ok .smulR ∧
    decode 0b00000000000000000000000000000000000000000000000000000000_00_1_1_0011 = .ok .sdivR ∧
    decode 0b00000000000000000000000000000000000000000000000000000000_00_1_1_0100 = .ok .spowR ∧
    decode 0b00000000000000000000000000000000000000000000000000000000_00_1_1_0101 = .ok .sfromintR ∧
    decode 0b00000000000000000000000000000000000000000000000000000000_00_1_1_0110 = .ok .stofloorR ∧
    decode 0b00000000000000000000000000000000000000000000000000000000_00_1_1_0111 = .ok .stoceilR ∧
    decode 0b00000000000000000000000000000000000000000000000000000000_00_1_1_1000 = .ok .scvtR2D := by
  decide

/-- The words just outside each family (EV1, EV3, EV5, EV7, EV9, EV10, EV12, EV14, EV15). -/
theorem test_decode_rejects :
    decode 0x08 = .error .wideFunction ∧ decode 0x19 = .error .scaledFunction ∧
      decode 0x28 = .error .wideFunction ∧ decode 0x39 = .error .scaledFunction ∧
      decode 0x40 = .error .opcodeTopBits ∧ decode 0x80 = .error .opcodeTopBits ∧
      decode 0x0100 = .error .highBits ∧ decode 0x8000000000000010 = .error .highBits ∧
      decode 0xFFFFFFFFFFFFFFFF = .error .highBits := by decide

/-- A byte list that is not one 8-byte write spells no command (R51). -/
theorem test_decode_short_bytes : decodeBytes [0x10] = .error .wrongLength := by decide

/-- The table's numbering: bit 0 is the least significant bit of the word. -/
theorem test_decodeTableWord :
    decodeTableWord 64 0x38 = some .scvtR2D ∧ decodeTableWord 64 0x0100000000000000 = none := by decide

/-- The state an outcome goes on with. -/
def nextOf : Host.Outcome State Fault Refusal → Option State
  | .next t => some t
  | _ => none

/-! ### One command from a small state: at most two vectors a command -/

/-- Status code, result and "the operands are as they were" after one step that runs the command with
`OPA = a` and `OPB = b`. -/
def runs (i : Instr) (a b : Nat) : Option (Nat × Nat × Bool) :=
  let s : State := { State.reset with opa := BitVec.ofNat 192 a, opb := BitVec.ofNat 192 b }
  match step (s.withFetchWord 64 (encode i).toNat) with
  | .next t => some (t.code.toNat, t.res.toNat, t.opa == s.opa && t.opb == s.opb)
  | _ => none

/-- WV4. -/
theorem test_wadd192_ok :
    runs .wadd192 (2 ^ 128 - 1) 1 = some (0, 2 ^ 128, true) := by
  decide

/-- WV7. -/
theorem test_wadd192_overflow :
    runs .wadd192 (2 ^ 191) (2 ^ 191) = some (1, 0, true) := by
  decide

/-- WV16. -/
theorem test_wsub192_ok :
    runs .wsub192 (2 ^ 128) 1 = some (0, 2 ^ 128 - 1, true) := by
  decide

/-- WV18. -/
theorem test_wsub192_underflow :
    runs .wsub192 (2 ^ 191) (2 ^ 191 + 1) = some (2, 0, true) := by
  decide

/-- WV25. -/
theorem test_wmul192_ok :
    runs .wmul192 (2 ^ 64 - 1) (2 ^ 64 - 1) = some (0, 2 ^ 128 - 2 ^ 65 + 1, true) := by
  decide

/-- WV27. -/
theorem test_wmul192_overflow :
    runs .wmul192 (2 ^ 96) (2 ^ 96) = some (1, 0, true) := by
  decide

/-- WV40. -/
theorem test_wdiv192_ok :
    runs .wdiv192 (10 ^ 37) 3 = some (0, 3333333333333333333333333333333333333, true) := by
  decide

/-- WV35. -/
theorem test_wdiv192_division_by_zero :
    runs .wdiv192 0 0 = some (3, 0, true) := by
  decide

/-- WV54. -/
theorem test_wpow192_ok :
    runs .wpow192 3 121 = some (0, 3 ^ 121, true) := by
  decide

/-- WV55. -/
theorem test_wpow192_overflow :
    runs .wpow192 3 122 = some (1, 0, true) := by
  decide

/-- WV68. -/
theorem test_wshl192_ok :
    runs .wshl192 3 191 = some (0, 2 ^ 191, true) := by
  decide

/-- WV67. -/
theorem test_wshl192_ok2 :
    runs .wshl192 1 192 = some (0, 0, true) := by
  decide

/-- WV81. -/
theorem test_wshr192_ok :
    runs .wshr192 (2 ^ 191 + 2 ^ 64) 65 = some (0, 2 ^ 126, true) := by
  decide

/-- WV78. -/
theorem test_wshr192_ok2 :
    runs .wshr192 (2 ^ 192 - 1) 192 = some (0, 0, true) := by
  decide

/-- WV88. -/
theorem test_wcmp192_ok :
    runs .wcmp192 (2 ^ 64) (2 ^ 128) = some (0, 0, true) := by
  decide

/-- WV90. -/
theorem test_wcmp192_ok2 :
    runs .wcmp192 (2 ^ 192 - 1) (2 ^ 192 - 2) = some (0, 2, true) := by
  decide

/-- SV4. -/
theorem test_saddD_ok :
    runs .saddD (18446744073709551615000000000000000000 - 1) 1 = some (0, 18446744073709551615000000000000000000, true) := by
  decide

/-- SV3. -/
theorem test_saddD_overflow :
    runs .saddD 18446744073709551615000000000000000000 1 = some (1, 0, true) := by
  decide

/-- SV16. -/
theorem test_ssubD_ok :
    runs .ssubD (18446744073709551615000000000000000000 + 5) 5 = some (0, 18446744073709551615000000000000000000, true) := by
  decide

/-- SV18. -/
theorem test_ssubD_underflow :
    runs .ssubD (18446744073709551615000000000000000000 + 6) (18446744073709551615000000000000000000 + 7) = some (2, 0, true) := by
  decide

/-- SV23. -/
theorem test_smulD_ok :
    runs .smulD 333333333333333333 333333333333333333 = some (0, 111111111111111110, true) := by
  decide

/-- SV35. -/
theorem test_smulD_overflow :
    runs .smulD ((2 ^ 64 - 1) * 10 ^ 9 + 1) (10 ^ 9 * 10 ^ 18) = some (1, 0, true) := by
  decide

/-- SV45. -/
theorem test_sdivD_ok :
    runs .sdivD (2 * 10 ^ 18) (3 * 10 ^ 18) = some (0, 666666666666666666, true) := by
  decide

/-- SV54. -/
theorem test_sdivD_division_by_zero :
    runs .sdivD (2 ^ 133) 0 = some (3, 0, true) := by
  decide

/-- SV86. -/
theorem test_spowD_ok :
    runs .spowD 1050000000000000001 7 = some (0, 1407100422656250008, true) := by
  decide

/-- SV84. -/
theorem test_spowD_overflow :
    runs .spowD (18446744073709551615000000000000000000 + 1) 1 = some (1, 0, true) := by
  decide

/-- CV4. -/
theorem test_sfromintD_ok :
    runs .sfromintD (2 ^ 64 - 1) (2 ^ 191 + 5) =
      some (0, 18446744073709551615000000000000000000, true) := by
  decide

/-- CV5. -/
theorem test_sfromintD_overflow :
    runs .sfromintD (2 ^ 64) (2 ^ 191 + 5) = some (1, 0, true) := by
  decide

/-- CV17. -/
theorem test_stofloorD_ok :
    runs .stofloorD (2 ^ 192 - 1) (2 ^ 191 + 5) = some (0, 6277101735386680763835789423207666416102, true) := by
  decide

/-- CV14. -/
theorem test_stofloorD_ok2 :
    runs .stofloorD (10 ^ 18 - 1) (2 ^ 191 + 5) = some (0, 0, true) := by
  decide

/-- CV26. -/
theorem test_stoceilD_ok :
    runs .stoceilD (10 ^ 18) (2 ^ 191 + 5) = some (0, 1, true) := by
  decide

/-- CV27. -/
theorem test_stoceilD_ok2 :
    runs .stoceilD (10 ^ 18 + 1) (2 ^ 191 + 5) = some (0, 2, true) := by
  decide

/-- CV44. -/
theorem test_scvtD2R_ok :
    runs .scvtD2R (255 * 10 ^ 18) (2 ^ 191 + 5) = some (0, 25500000000, true) := by
  decide

/-- CV45. -/
theorem test_scvtD2R_range_error :
    runs .scvtD2R (255 * 10 ^ 18 + 1) (2 ^ 191 + 5) = some (4, 0, true) := by
  decide

/-- WV10. -/
theorem test_wadd128_ok :
    runs .wadd128 (2 ^ 128 - 1) 0 = some (0, 2 ^ 128 - 1, true) := by
  decide

/-- WV11. -/
theorem test_wadd128_overflow :
    runs .wadd128 (2 ^ 128 - 1) 1 = some (1, 0, true) := by
  decide

/-- WV20. -/
theorem test_wsub128_ok :
    runs .wsub128 (2 ^ 64) 1 = some (0, 2 ^ 64 - 1, true) := by
  decide

/-- WV19. -/
theorem test_wsub128_underflow :
    runs .wsub128 3 4 = some (2, 0, true) := by
  decide

/-- WV32. -/
theorem test_wmul128_ok :
    runs .wmul128 (2 ^ 64 - 1) (2 ^ 64 + 1) = some (0, 2 ^ 128 - 1, true) := by
  decide

/-- WV31. -/
theorem test_wmul128_overflow :
    runs .wmul128 (2 ^ 64) (2 ^ 64) = some (1, 0, true) := by
  decide

/-- WV42. -/
theorem test_wdiv128_ok :
    runs .wdiv128 (2 ^ 128 - 1) (2 ^ 64) = some (0, 2 ^ 64 - 1, true) := by
  decide

/-- WV44. -/
theorem test_wdiv128_format_error :
    runs .wdiv128 (2 ^ 128) 0 = some (5, 0, true) := by
  decide

/-- WV62. -/
theorem test_wpow128_ok :
    runs .wpow128 10 38 = some (0, 10 ^ 38, true) := by
  decide

/-- WV64. -/
theorem test_wpow128_format_error :
    runs .wpow128 1 (2 ^ 128) = some (5, 0, true) := by
  decide

/-- WV74. -/
theorem test_wshl128_ok :
    runs .wshl128 3 127 = some (0, 2 ^ 127, true) := by
  decide

/-- WV76. -/
theorem test_wshl128_ok2 :
    runs .wshl128 (2 ^ 128 - 1) 64 = some (0, 2 ^ 128 - 2 ^ 64, true) := by
  decide

/-- WV82. -/
theorem test_wshr128_ok :
    runs .wshr128 (2 ^ 128 - 1) 64 = some (0, 2 ^ 64 - 1, true) := by
  decide

/-- WV84. -/
theorem test_wshr128_format_error :
    runs .wshr128 (2 ^ 128) 1 = some (5, 0, true) := by
  decide

/-- WV91. -/
theorem test_wcmp128_ok :
    runs .wcmp128 (2 ^ 64) (2 ^ 64 - 1) = some (0, 2, true) := by
  decide

/-- WV93. -/
theorem test_wcmp128_format_error :
    runs .wcmp128 (2 ^ 128) 0 = some (5, 0, true) := by
  decide

/-- SV8. -/
theorem test_saddR_ok :
    runs .saddR 20000000000 5500000000 = some (0, 25500000000, true) := by
  decide

/-- SV9. -/
theorem test_saddR_overflow :
    runs .saddR 20000000000 5500000001 = some (1, 0, true) := by
  decide

/-- SV19. -/
theorem test_ssubR_ok :
    runs .ssubR 5000000000 2000000000 = some (0, 3000000000, true) := by
  decide

/-- SV21. -/
theorem test_ssubR_overflow :
    runs .ssubR (25500000000 + 1) 0 = some (1, 0, true) := by
  decide

/-- SV40. -/
theorem test_smulR_ok :
    runs .smulR 33333333 33333333 = some (0, 11111110, true) := by
  decide

/-- SV42. -/
theorem test_smulR_overflow :
    runs .smulR (2 ^ 100) (2 ^ 27) = some (1, 0, true) := by
  decide

/-- SV63. -/
theorem test_sdivR_ok :
    runs .sdivR (2 ^ 101) (2 ^ 101) = some (0, 10 ^ 8, true) := by
  decide

/-- SV65. -/
theorem test_sdivR_format_error :
    runs .sdivR 1 (2 ^ 128) = some (5, 0, true) := by
  decide

/-- SV96. -/
theorem test_spowR_ok :
    runs .spowR 123456789 10 = some (0, 822526243, true) := by
  decide

/-- SV94. -/
theorem test_spowR_format_error :
    runs .spowR (2 ^ 128) 0 = some (5, 0, true) := by
  decide

/-- CV9. -/
theorem test_sfromintR_ok :
    runs .sfromintR 255 (2 ^ 191 + 5) = some (0, 25500000000, true) := by
  decide

/-- CV10. -/
theorem test_sfromintR_overflow :
    runs .sfromintR 256 (2 ^ 191 + 5) = some (1, 0, true) := by
  decide

/-- CV20. -/
theorem test_stofloorR_ok :
    runs .stofloorR (2 ^ 128 - 1) (2 ^ 191 + 5) = some (0, 3402823669209384634633746074317, true) := by
  decide

/-- CV21. -/
theorem test_stofloorR_format_error :
    runs .stofloorR (2 ^ 128) (2 ^ 191 + 5) = some (5, 0, true) := by
  decide

/-- CV33. -/
theorem test_stoceilR_ok :
    runs .stoceilR (2 ^ 128 - 1) (2 ^ 191 + 5) = some (0, 3402823669209384634633746074318, true) := by
  decide

/-- CV32. -/
theorem test_stoceilR_ok2 :
    runs .stoceilR 300000000 (2 ^ 191 + 5) = some (0, 3, true) := by
  decide

/-- CV38. -/
theorem test_scvtR2D_ok :
    runs .scvtR2D 1844674407370955161500000000 (2 ^ 191 + 5) =
      some (0, 18446744073709551615000000000000000000, true) := by
  decide

/-- CV39. -/
theorem test_scvtR2D_overflow :
    runs .scvtR2D 1844674407370955161500000001 (2 ^ 191 + 5) = some (1, 0, true) := by
  decide

/-! ### The bus (95_test_vectors.md section 2.5): the state of its rows is `OPA = 7`, `OPB = 8` -/

/-- The state of the bus vectors. -/
def s78 : State := { State.reset with opa := 7, opb := 8 }

/-- The answer to one access, and whether every register stayed. -/
def answers (a : Access) : Option (Answer × Bool) :=
  match perform a s78 with
  | .next t => some (t.answer, { t with answer := .idle } == s78)
  | _ => none

/-- BV1, BV2, BV3, BV6. -/
theorem test_bus_reads :
    answers (.read 0x00 8) = some (.data 7, true) ∧ answers (.read 0x10 8) = some (.data 0, true) ∧
      answers (.read 0x20 8) = some (.data 8, true) ∧
      answers (.read 0x70 8) = some (.data 0x0000034044570001, true) := by decide

/-- BV7, BV8, BV11, BV13, BV14, BV15, BV19. -/
theorem test_bus_errors :
    answers (.read 0x60 8) = some (.refused .busError, true) ∧
      answers (.write 0x40 8 1) = some (.refused .busError, true) ∧
      answers (.read 0x18 8) = some (.refused .busError, true) ∧
      answers (.read 0x04 4) = some (.refused .busError, true) ∧
      answers (.read 0x04 8) = some (.refused .busError, true) ∧
      answers (.write 0x60 4 0) = some (.refused .busError, true) ∧
      answers (.write 0x00 16 0) = some (.refused .busError, true) := by decide

/-- Just below and just above the window (20_memory.md R31, R33). -/
theorem test_bus_outside :
    answers (.read (-8) 8) = some (.refused .busError, true) ∧
      answers (.write 0x80 8 3) = some (.refused .busError, true) := by decide

/-- The same by address, at the last readable register and just above the window (R33). -/
theorem test_memRead_by_address :
    memRead (Config.base + 0x70) 8 s78 = .ok 0x0000034044570001 ∧
      memRead (Config.base + 0x80) 8 s78 = .error .busError ∧
      memRead (Config.base + 0x74) 8 s78 = .error .busError := by
  rw [memRead_at, memRead_at, memRead_at]; decide

/-- The same by address: the first limb, the last offset of the window, the first above it, `STATUS` (R34). -/
theorem test_memWrite_by_address :
    (memWrite (Config.base + 0x00) 8 9 s78).toOption.bind nextOf = some { s78 with opa := 9 } ∧
      (memWrite (Config.base + 0x78) 8 9 s78).toOption.isNone = true ∧
      (memWrite (Config.base + 0x80) 8 9 s78).toOption.isNone = true ∧
      (memWrite (Config.base + 0x68) 8 9 s78).toOption.isNone = true := by
  rw [memWrite_at, memWrite_at, memWrite_at, memWrite_at]; decide

/-- BV17: a limb write leaves the other two limbs. -/
theorem test_limb_write :
    nextOf (perform (.write 0x08 8 0xFFFFFFFFFFFFFFFF) s78) =
      some { s78 with opa := 340282366920938463444927863358058659847, answer := .done } := by decide

/-- BV18: the bytes of a limb, least significant first. -/
theorem test_byte_order :
    windowBytes { s78 with opb := 0x0102030405060708 } 0x20 8 = [8, 7, 6, 5, 4, 3, 2, 1] := by decide

/-- The byte layout of `MAXRAW_D` in `RES` (95_test_vectors.md section 2.5). -/
theorem test_decimal_buffer :
    windowBytes { s78 with res := 18446744073709551615000000000000000000 } 0x40 24 =
      [0, 0, 0x9C, 0x58, 0x4C, 0x49, 0x1F, 0xF2, 0xFF, 0xFF, 0x63, 0xA7, 0xB3, 0xB6, 0xE0, 0x0D,
        0, 0, 0, 0, 0, 0, 0, 0] := by decide

/-- EV16: an illegal word is code 6 before any look at the operands; a former result is cleared. -/
theorem test_illegal_word :
    nextOf (execute 0x28 { State.reset with opa := .ofNat 192 (2 ^ 128), res := 5 }) =
      some { State.reset with opa := .ofNat 192 (2 ^ 128), code := 6 } := by decide

/-- The interface: the very next step runs the word that was placed. -/
theorem test_withFetchWord :
    nextOf (step ({ State.reset with opa := 5, opb := 3 }.withFetchWord 64 0x01)) =
      some { State.reset with opa := 5, opb := 3, res := 2, answer := .done } := by decide

/-- A reset event between accesses (R155), and a step with nothing to serve. -/
theorem test_reset_event :
    nextOf (step { State.reset with opa := 5, res := 9, code := 2, pending := [.reset] }) =
      some State.reset ∧
      nextOf (step State.reset) =
      some State.reset := by decide

/-- A chained use of a result: `mvra` between two commands, `(5 + 3) * 3` by `wadd.192` and
`wmul.192`. -/
theorem test_script_chain :
    nextOf (runHost (expandScript [.lda 5, .ldb 3, .command .wadd192, .mvra, .command .wmul192]) State.reset) =
      some { State.reset with opa := 8, opb := 3, res := 24, answer := .done } := by decide

/-- Program V9's two orders of `spow.r` differ: the rule's order gives 822526243 (R95). -/
theorem test_spow_rounds :
    scaledPow .r 123456789 10 = .ok 822526243 := by decide

/-! ### Witnesses: for each statement with hypotheses, values that meet them, at the edges -/

/-- IllegalWordsRaiseIllegalCommand: each of the rule's four cases at its edge. -/
theorem witness_illegal_words :
    IllegalWord 0x100 ∧ IllegalWord 0x40 ∧ IllegalWord 0x08 ∧ IllegalWord 0x28 ∧ IllegalWord 0x19 ∧
      IllegalWord 0x39 ∧ ¬ IllegalWord 0x07 ∧ ¬ IllegalWord 0x38 := by
  unfold IllegalWord; decide

/-- StepRunsTheDecodedCommand: the last legal word, and the one after it. -/
theorem witness_step_runs :
    (State.reset.withFetchWord 64 0x38).pending = commandWrite 0x38 :: [] ∧
      decode 0x38 = .ok .scvtR2D ∧ Instr.wellFormed .scvtR2D = true ∧
      (State.reset.withFetchWord 64 0x39).pending = commandWrite 0x39 :: [] ∧
      decode 0x39 = .error .scaledFunction := by decide

/-- ResetEventAndIdleStep: both clauses. -/
theorem witness_reset_and_idle :
    ({ s78 with pending := [.reset] } : State).pending = .reset :: [] ∧ s78.pending = [] := by decide

/-- RefusedAccessChangesNoRegister: a refused read and a refused write. -/
theorem witness_refused :
    (s78.setPending [.access (.read 0x60 8)]).pending = .access (.read 0x60 8) :: [] ∧
      readWellFormed 0x60 8 = false ∧
      (s78.setPending [.access (.write 0x68 8 0)]).pending = .access (.write 0x68 8 0) :: [] ∧
      writeWellFormed 0x68 8 = false := by decide

/-- ReadsHaveNoSideEffect: an accepted and a refused read. -/
theorem witness_reads :
    (s78.setPending [.access (.read 0x20 8)]).pending = .access (.read 0x20 8) :: [] ∧
      (portRead 0x20 8 s78).toOption = some 8 ∧
      (s78.setPending [.access (.read 0x60 8)]).pending = .access (.read 0x60 8) :: [] ∧
      (portRead 0x60 8 s78).toOption = none := by decide

/-- LimbWriteStoresItsEightBytesOnly: the first limb of `OPA` and the last of `OPB`, with the byte just
below and the byte just above. -/
theorem witness_limb_write :
    0x00 ∈ [0x00, 0x08, 0x10, 0x20, 0x28, 0x30] ∧ 0x30 ∈ [0x00, 0x08, 0x10, 0x20, 0x28, 0x30] ∧
      (s78.setPending [.access (.write 0x00 8 5)]).pending = .access (.write ((0x00 : Nat) : Int) 8 5) :: [] ∧
      (s78.setPending [.access (.write 0x30 8 5)]).pending = .access (.write ((0x30 : Nat) : Int) 8 5) :: [] ∧
      windowByte s78 0x37 = some 0 ∧ windowByte s78 0x2F = some 0 ∧ windowByte s78 0x38 = none := by decide

/-- ByteBuffersAreLittleEndian: the largest 128-bit value in each register. -/
theorem witness_byte_buffers :
    let v : Wide := .ofNat 192 (2 ^ 128 - 1)
    let s : State := { State.reset with opa := v, opb := v, res := v }
    s.opa.toNat < 2 ^ 128 ∧ s.opb.toNat < 2 ^ 128 ∧ s.res.toNat < 2 ^ 128 := by decide

/-- ScaledPowerCommandsFollowTheLoop: the two clauses of an exponent of zero. -/
theorem witness_power_zero :
    let s : State := { State.reset with opa := .ofNat 192 (2 ^ 128 - 1), opb := 0 }
    s.opb = 0 ∧ s.opa.toNat < 2 ^ 128 := by decide

/-- CommandsChangeOnlyResAndStatus: a command that answers, and the bytes at the edges of `RES` and
`STATUS`. -/
theorem witness_frame :
    nextOf (exec .wadd192 s78) = some { s78 with res := 15 } ∧ windowByte s78 0x37 = some 0 ∧
      windowByte s78 0x58 = none ∧ windowByte s78 0x67 = none ∧ windowByte s78 0x70 = some 1 := by decide

/-- OutcomeDependsOnWordAndOperandsOnly: two states that differ in the rest. -/
theorem witness_outcome :
    let s : State := { s78 with res := 3, code := 0 }
    let s' : State := { s78 with res := 0, code := 6 }
    s.opa = s'.opa ∧ s.opb = s'.opb ∧ s ≠ s' := by decide

/-- OneOperandCommandsIgnoreOPB. -/
theorem witness_one_operand :
    Instr.sfromintR ∈ [Instr.sfromintD, .stofloorD, .stoceilD, .scvtD2R, .sfromintR, .stofloorR, .stoceilR,
      .scvtR2D] := by decide

/-- ResultsKeepTheirBounds: a success of each of the three kinds, at the bound. -/
theorem witness_bounds :
    nextOf (exec .wadd128 { State.reset with opa := .ofNat 192 (2 ^ 128 - 1) }) =
        some { State.reset with opa := .ofNat 192 (2 ^ 128 - 1), res := .ofNat 192 (2 ^ 128 - 1) } ∧
      nextOf (exec .saddD { State.reset with opa := 18446744073709551615000000000000000000 }) =
        some { State.reset with
          opa := 18446744073709551615000000000000000000, res := 18446744073709551615000000000000000000 } ∧
      nextOf (exec .saddR { State.reset with opa := 25500000000 }) =
        some { State.reset with opa := 25500000000, res := 25500000000 } := by decide

/-- EveryStepKeepsStatusGood: a good state after an error, and its step. -/
theorem witness_status_good :
    let s : State := { s78 with code := 6, pending := [commandWrite 0x01] }
    s.StatusGood ∧ nextOf (step s) = some { s78 with code := 2, answer := .done } := by
  unfold State.StatusGood; decide

/-- AdditionAndMultiplicationCommute. -/
theorem witness_commute :
    Instr.smulR ∈ [Instr.wadd192, .wadd128, .wmul192, .wmul128, .saddD, .saddR, .smulD, .smulR] := by decide

/-- ScaledIdentities: each clause with `OPA` at the ceiling. -/
theorem witness_identities :
    let d : State := { State.reset with opa := 18446744073709551615000000000000000000 }
    let r : State := { State.reset with opa := 25500000000 }
    d.opa.toNat ≤ 18446744073709551615000000000000000000 ∧ d.opb = 0 ∧
      ({ d with opb := .ofNat 192 (10 ^ 18) } : State).opb.toNat = 10 ^ 18 ∧
      r.opa.toNat ≤ 25500000000 ∧ r.opb = 0 ∧ ({ r with opb := .ofNat 192 (10 ^ 8) } : State).opb.toNat = 10 ^ 8 := by
  decide

/-- ScaledAdditionAssociates: PR3's instance, and one that ends on the ceiling. -/
theorem witness_associates :
    scaledAdd .d (10 ^ 18) (2 * 10 ^ 18) = .ok (3 * 10 ^ 18) ∧
      scaledAdd .d (3 * 10 ^ 18) (3 * 10 ^ 18) = .ok (6 * 10 ^ 18) ∧
      scaledAdd .d (2 * 10 ^ 18) (3 * 10 ^ 18) = .ok (5 * 10 ^ 18) ∧
      scaledAdd .d (10 ^ 18) (5 * 10 ^ 18) = .ok (6 * 10 ^ 18) ∧
      scaledAdd .r 25499999998 1 = .ok 25499999999 ∧ scaledAdd .r 25499999999 1 = .ok 25500000000 ∧
      scaledAdd .r 1 1 = .ok 2 ∧ scaledAdd .r 25499999998 2 = .ok 25500000000 := by decide

/-- IntegerRoundTrip: the largest integer of each type (V7). -/
theorem witness_integer_round_trip :
    ({ State.reset with opa := .ofNat 192 (2 ^ 64 - 1) } : State).opa.toNat ≤ 2 ^ 64 - 1 ∧
      ({ State.reset with opa := 255 } : State).opa.toNat ≤ 255 := by decide

/-- RateDecimalRoundTrip: the largest value of each direction. -/
theorem witness_rate_decimal :
    ({ State.reset with opa := 25500000000 } : State).opa.toNat ≤ 25500000000 ∧
      ({ State.reset with opa := .ofNat 192 (255 * 10 ^ 18) } : State).opa.toNat ≤ 255 * 10 ^ 18 := by decide

/-- FloorAndCeilingBracket: no remainder and the smallest remainder, for Decimal; for Rate the largest
operand of its width besides. -/
theorem witness_floor_ceiling :
    ({ State.reset with opa := .ofNat 192 (10 ^ 18) } : State).opa.toNat % 10 ^ 18 = 0 ∧
      ({ State.reset with opa := .ofNat 192 (10 ^ 18 + 1) } : State).opa.toNat % 10 ^ 18 ≠ 0 ∧
      ({ State.reset with opa := .ofNat 192 (10 ^ 8) } : State).opa.toNat % 10 ^ 8 = 0 ∧
      ({ State.reset with opa := .ofNat 192 (2 ^ 128 - 1) } : State).opa.toNat < 2 ^ 128 ∧
      ({ State.reset with opa := .ofNat 192 (2 ^ 128 - 1) } : State).opa.toNat % 10 ^ 8 ≠ 0 := by decide

/-- DecimalMultiplyLosesNothingByWidth: a product whose result is the ceiling (SV26). -/
theorem witness_decimal_multiply :
    let s : State := { State.reset with opa := 18446744073709551615000000000000000000, opb := .ofNat 192 (10 ^ 18) }
    s.opa.toNat * s.opb.toNat / 10 ^ 18 ≤ 18446744073709551615000000000000000000 := by decide

/-- CarryChainAdds, BorrowChainSubtracts, LimbComparatorOrdersNumbers: vectors of one length, with and
without a carry or borrow out. -/
theorem witness_chains :
    ([0xFFFFFFFFFFFFFFFF, 0] : List Limb).length = ([1, 5] : List Limb).length ∧
      addChain 0 [0xFFFFFFFFFFFFFFFF, 0] [1, 5] = ([0, 6], 0) ∧
      addChain 0 [0xFFFFFFFFFFFFFFFF] [1] = ([0], 1) ∧
      subChain 0 [0, 1] [1, 0] = ([0xFFFFFFFFFFFFFFFF, 0], 0) ∧
      subChain 0 [0] [1] = ([0xFFFFFFFFFFFFFFFF], 1) ∧ cmpLimbs [0, 1] [5, 0] = 2 := by decide

/-- The operands of the limb statements: the largest of each width. -/
theorem witness_limb_operands :
    2 ^ 192 - 1 < 2 ^ widthBits .w192 ∧ 2 ^ 128 - 1 < 2 ^ widthBits .w128 ∧
      2 ^ 192 - 1 < 2 ^ widthBits (backing .d) ∧ 2 ^ 128 - 1 < 2 ^ widthBits (backing .r) := by decide

/-- RestoringDividerDivides: the smallest divisor; LimbShifterShifts: counts at a limb boundary and at
the last one. -/
theorem witness_divider_shifter :
    (1 : Nat) ≠ 0 ∧ 64 < widthBits .w192 ∧ 191 < widthBits .w192 ∧ 127 < widthBits .w128 := by decide

end Sys2Proof.Tests
end

