-- ==== Sys2Proof/Proofs/Scope.lean ====
section
/-! PROOFS. The open parameters (00_scope.md R6): what holds of `BASE` and `LAT` whatever their free parts are. -/

namespace Sys2Proof.Config

theorem dvd_base : 128 ∣ base := Nat.dvd_mul_right 128 baseIndex

theorem latency_pos (op : CmdWord) (a b : Wide) : 0 < latency op a b :=
  Nat.add_pos_left Nat.one_pos _

/-- The free part is taken modulo `latencySpread + 1`, so one bound serves every command and operand. -/
theorem latency_le (op : CmdWord) (a b : Wide) : latency op a b ≤ latencySpread + 1 := by
  have hfree : latencyChoice op a b % (latencySpread + 1) < latencySpread + 1 :=
    Nat.mod_lt _ (Nat.succ_pos latencySpread)
  unfold latency
  omega

/-- Settles O8: `BASE` is built as a multiple of 128, and `latencySpread + 1` bounds the latency. -/
theorem openParametersAreInTheirRange : Obligations.OpenParametersAreInTheirRange := by
  refine ⟨Nat.mod_eq_zero_of_dvd dvd_base, latencySpread + 1, fun op a b => ?_⟩
  exact ⟨latency_pos op a b, latency_le op a b⟩

end Sys2Proof.Config
end

/-! PROOFS. The state of DWU (10_state.md): a command's outcome is a function of its word and its operands
(R19), of `OPA` alone for a one-operand command (R12); what reset leaves (R20) and what `ID` is (R16); the
good status and the bounds of R21. -/

namespace Sys2Proof.Machine

/-! ### What the end of a command records -/

/-- Ending a command twice with the same outcome is ending it once: both writes are of `RES` and
`STATUS.CODE` (60_exceptions.md R143, R144). -/
@[simp] theorem State.finish_finish (s : State) (o : Except Err Nat) :
    (s.finish o).finish o = s.finish o := by
  cases o <;> rfl

/-- What is recorded in `RES` does not depend on the state it is recorded in. -/
theorem State.finish_res_congr (s s' : State) (o : Except Err Nat) :
    (s.finish o).res = (s'.finish o).res := by
  cases o <;> rfl

/-- What is recorded in `STATUS.CODE` does not depend on the state it is recorded in. -/
theorem State.finish_code_congr (s s' : State) (o : Except Err Nat) :
    (s.finish o).code = (s'.finish o).code := by
  cases o <;> rfl

/-- Recording an outcome commutes with a change of `OPB`. -/
theorem State.finish_with_opb (s : State) (o : Except Err Nat) (b : Wide) :
    State.finish { s with opb := b } o = { s.finish o with opb := b } := by
  cases o <;> rfl

/-! ### The good status (10_state.md R21) -/

/-- The good status speaks of `RES` and `STATUS.CODE` only. -/
theorem State.statusGood_of_same_outcome {s t : State} (h : s.StatusGood) (hres : t.res = s.res)
    (hcode : t.code = s.code) : t.StatusGood := by
  unfold State.StatusGood at *
  rw [hres, hcode]
  exact h

/-- Every end of a command leaves a good status: success has code 0, an error has one of the codes 1 to 6
and clears `RES` (60_exceptions.md R143, R144). -/
theorem State.finish_statusGood (s : State) (o : Except Err Nat) : (s.finish o).StatusGood := by
  cases o with
  | ok r => exact .inl rfl
  | error e =>
    obtain ⟨hlow, hhigh⟩ := Err.code_range e
    exact .inr ⟨hlow, hhigh, rfl⟩

/-- An error's code is not the code of success (60_exceptions.md R135). -/
theorem Err.code_ne_zero (e : Err) : e.code ≠ 0 := by
  cases e <;> decide

/-- Settles O43: `STATUS.CODE` is 0 there. -/
theorem statusGoodAtReset : Obligations.StatusGoodAtReset := .inl rfl

/-- Settles O44, over what a step can do: a reset and a command set the status, every other step leaves
`RES` and `STATUS.CODE` as they were. -/
theorem everyStepKeepsStatusGood : Obligations.EveryStepKeepsStatusGood := by
  intro s t hgood hstep
  obtain ⟨-, h⟩ | ⟨rest, -, h⟩ | ⟨a, rest, ans, -, h⟩ | ⟨a, rest, k, v, -, h⟩ | ⟨a, rest, k, v, -, h⟩ |
    ⟨a, rest, o, -, h⟩ := step_cases s
  all_goals obtain rfl := Host.Outcome.next.inj (h.symm.trans hstep)
  · exact hgood
  · exact State.statusGood_of_same_outcome statusGoodAtReset rfl rfl
  · exact State.statusGood_of_same_outcome hgood (State.reply_res _ ans) (State.reply_code _ ans)
  · exact State.statusGood_of_same_outcome hgood (State.writeOpa_res _ k v) (State.writeOpa_code _ k v)
  · exact State.statusGood_of_same_outcome hgood (State.writeOpb_res _ k v) (State.writeOpb_code _ k v)
  · exact State.finish_statusGood _ o

/-! ### A command's outcome is a function of its operands -/

/-- A two-operand command's outcome is a function of `OPA` and `OPB`. -/
theorem binaryCommand_outcome (w : Width) (f : Nat → Nat → Except Err Nat) :
    ∃ o : Wide → Wide → Except Err Nat, ∀ s, binaryCommand w f s = .next (s.finish (o s.opa s.opb)) :=
  ⟨fun a b => operand w a >>= fun x => operand w b >>= fun y => f x y, fun _ => rfl⟩

/-- A one-operand command's outcome is a function of `OPA` alone. -/
theorem unaryCommand_outcome (w : Width) (f : Nat → Except Err Nat) :
    ∃ o : Wide → Except Err Nat, ∀ s, unaryCommand w f s = .next (s.finish (o s.opa)) :=
  ⟨fun a => operand w a >>= f, fun _ => rfl⟩

/-- The eight commands that read `OPA` only (10_state.md R12). -/
def oneOperandCommands : List Instr :=
  [.sfromintD, .stofloorD, .stoceilD, .scvtD2R, .sfromintR, .stofloorR, .stoceilR, .scvtR2D]

/-- The outcome of a one-operand command is a function of `OPA` alone (10_state.md R12). -/
theorem exec_outcome_of_opa {i : Instr} (hi : i ∈ oneOperandCommands) :
    ∃ o : Wide → Except Err Nat, ∀ s, exec i s = .next (s.finish (o s.opa)) := by
  simp only [oneOperandCommands, List.mem_cons, List.not_mem_nil, or_false] at hi
  obtain rfl | rfl | rfl | rfl | rfl | rfl | rfl | rfl := hi <;> exact unaryCommand_outcome _ _

/-- The outcome of every command is a function of `OPA` and `OPB` (10_state.md R19). -/
theorem exec_outcome (i : Instr) :
    ∃ o : Wide → Wide → Except Err Nat, ∀ s, exec i s = .next (s.finish (o s.opa s.opb)) := by
  by_cases hi : i ∈ oneOperandCommands
  · obtain ⟨o, ho⟩ := exec_outcome_of_opa hi
    exact ⟨fun a _ => o a, ho⟩
  · cases i with
    | sfromintD | stofloorD | stoceilD | scvtD2R | sfromintR | stofloorR | stoceilR | scvtR2D =>
      exact absurd (by decide) hi
    | _ => exact binaryCommand_outcome _ _

/-- The outcome of every command word is a function of `OPA` and `OPB`: an illegal word has one outcome
(30_encoding.md R49, R55). -/
theorem execute_outcome (w : CmdWord) :
    ∃ o : Wide → Wide → Except Err Nat, ∀ s, execute w s = .next (s.finish (o s.opa s.opb)) := by
  unfold execute
  cases decode w with
  | ok i => exact exec_outcome i
  | error e => exact ⟨fun _ _ => .error .illegalCommand, fun _ => rfl⟩

/-- Settles O40: the outcome is a function of the word and the operands, a command leaves the operands,
so the second execution records the same outcome over itself. -/
theorem outcomeDependsOnWordAndOperandsOnly : Obligations.OutcomeDependsOnWordAndOperandsOnly := by
  intro w s s' hopa hopb
  obtain ⟨o, ho⟩ := execute_outcome w
  have hs' : execute w s' = .next (s'.finish (o s.opa s.opb)) := by rw [ho s', hopa, hopb]
  have hagain : execute w (s.finish (o s.opa s.opb)) = .next (s.finish (o s.opa s.opb)) := by
    rw [ho, State.finish_opa, State.finish_opb, State.finish_finish]
  exact ⟨_, _, ho s, hs', State.finish_res_congr s s' _, State.finish_code_congr s s' _, hagain⟩

/-- Settles O41: the outcome is a function of `OPA`, and recording it leaves `OPB` alone. -/
theorem oneOperandCommandsIgnoreOPB : Obligations.OneOperandCommandsIgnoreOPB := by
  intro i s b hi
  obtain ⟨o, ho⟩ := exec_outcome_of_opa hi
  exact ⟨s.finish (o s.opa), ho s, by rw [ho, State.finish_with_opb]⟩

/-! ### Bounds on what a rule yields (10_state.md R21) -/

/-- A rule's outcome, if it is a number, is at most `top`. -/
def AtMost (top : Nat) (o : Except Err Nat) : Prop := ∀ r, o = .ok r → r ≤ top

theorem atMost_ok {top r : Nat} (h : r ≤ top) : AtMost top (.ok r) := by
  rintro _ ⟨⟩
  exact h

theorem atMost_error (top : Nat) (e : Err) : AtMost top (.error e) := by
  rintro _ ⟨⟩

/-- A rule that tests and then answers: the bound is needed only where the test lets the number through. -/
theorem atMost_check {c : Prop} [Decidable c] {top r : Nat} {e : Err} (h : ¬ c → r ≤ top) :
    AtMost top (if c then .error e else .ok r) := by
  split
  · exact atMost_error top e
  · next hc => exact atMost_ok (h hc)

/-- A rule in sequence is bounded by its last part. -/
theorem atMost_bind {top : Nat} {o : Except Err Nat} {f : Nat → Except Err Nat}
    (h : ∀ x, o = .ok x → AtMost top (f x)) : AtMost top (o >>= f) := by
  cases o with
  | ok x => exact h x rfl
  | error e => exact atMost_error top e

/-- A successful command whose rule yields at most `top` leaves at most `top` in `RES`. -/
theorem State.finish_res_le {s : State} {o : Except Err Nat} {top : Nat} (ho : AtMost top o)
    (hcode : (s.finish o).code = 0) : (s.finish o).res.toNat ≤ top := by
  cases o with
  | ok r => exact (BitVec.toNat_ofNat r 192).trans_le ((Nat.mod_le _ _).trans (ho r rfl))
  | error e => exact absurd hcode e.code_ne_zero

/-! The Wide Integer Core: the largest number of a width -/

/-- The largest number of a width, `2^W - 1`. -/
def widthMax (w : Width) : Nat := 2 ^ widthBits w - 1

theorem le_widthMax_iff {w : Width} {a : Nat} : a ≤ widthMax w ↔ a < 2 ^ widthBits w := by
  have hpos : 0 < 2 ^ widthBits w := Nat.two_pow_pos _
  unfold widthMax
  omega

/-- An operand that passes the width check is a number of the width (60_exceptions.md R141). -/
theorem operand_atMost (w : Width) (v : Wide) : AtMost (widthMax w) (operand w v) := by
  cases w with
  | w192 => exact operand_w192 v ▸ atMost_ok (le_widthMax_iff.mpr v.isLt)
  | w128 => exact atMost_check fun hc => le_widthMax_iff.mpr (Nat.not_le.mp fun hge => hc ⟨rfl, hge⟩)

theorem checkedAdd_atMost (w : Width) (a b : Nat) : AtMost (widthMax w) (checkedAdd w a b) :=
  atMost_check fun hc => le_widthMax_iff.mpr (Nat.not_le.mp hc)

theorem checkedMul_atMost (w : Width) (a b : Nat) : AtMost (widthMax w) (checkedMul w a b) :=
  atMost_check fun hc => le_widthMax_iff.mpr (Nat.not_le.mp hc)

theorem checkedSub_atMost {top a : Nat} (ha : a ≤ top) (b : Nat) : AtMost top (checkedSub a b) :=
  atMost_check fun _ => (Nat.sub_le a b).trans ha

theorem checkedDiv_atMost {top a : Nat} (ha : a ≤ top) (b : Nat) : AtMost top (checkedDiv a b) :=
  atMost_check fun _ => (Nat.div_le_self a b).trans ha

/-- The squaring loop keeps a bound that holds of every product and of the accumulator. -/
theorem powLoop_atMost {mul : Nat → Nat → Except Err Nat} {top : Nat} (hmul : ∀ a b, AtMost top (mul a b)) :
    ∀ rounds acc base n, acc ≤ top → AtMost top (powLoop mul rounds acc base n)
  | 0, _, _, _, hacc => atMost_ok hacc
  | rounds + 1, acc, base, n, hacc => by
    have hround : AtMost top (if n % 2 = 1 then mul acc base else .ok acc) := by
      split
      · exact hmul acc base
      · exact atMost_ok hacc
    rw [powLoop]
    split
    · exact atMost_ok hacc
    · refine atMost_bind fun acc' hacc' => ?_
      split
      · exact atMost_ok (hround acc' hacc')
      · exact atMost_bind fun base' _ => powLoop_atMost hmul rounds acc' base' (n / 2) (hround acc' hacc')

theorem checkedPow_atMost (w : Width) (a n : Nat) : AtMost (widthMax w) (checkedPow w a n) :=
  powLoop_atMost (checkedMul_atMost w) _ 1 a n (by cases w <;> decide)

theorem shl_le (w : Width) (a n : Nat) : shl w a n ≤ widthMax w := by
  unfold shl
  split
  · exact Nat.zero_le _
  · exact le_widthMax_iff.mpr (Nat.mod_lt _ (Nat.two_pow_pos _))

theorem shr_le (w : Width) (a n : Nat) : shr w a n ≤ a := by
  unfold shr
  split
  · exact Nat.zero_le a
  · exact Nat.div_le_self a _

theorem wideCmp_le (w : Width) (a b : Nat) : wideCmp a b ≤ widthMax w := by
  have htwo : wideCmp a b ≤ 2 := by
    unfold wideCmp
    split_ifs <;> decide
  exact htwo.trans (by cases w <;> decide)

/-! The Scaled Value commands: the ceiling of the type -/

theorem inDomain_atMost (t : STy) (v : Nat) : AtMost (maxRaw t) (inDomain t v) :=
  atMost_check Nat.not_lt.mp

theorem scaledAdd_atMost (t : STy) (a b : Nat) : AtMost (maxRaw t) (scaledAdd t a b) :=
  atMost_bind fun s _ => inDomain_atMost t s

theorem scaledSub_atMost (t : STy) (a b : Nat) : AtMost (maxRaw t) (scaledSub t a b) :=
  atMost_bind fun d _ => inDomain_atMost t d

theorem scaledMul_atMost (t : STy) (a b : Nat) : AtMost (maxRaw t) (scaledMul t a b) :=
  atMost_bind fun p _ => inDomain_atMost t (p / scale t)

theorem scaledDiv_atMost (t : STy) (a b : Nat) : AtMost (maxRaw t) (scaledDiv t a b) := by
  unfold scaledDiv
  split
  · exact atMost_error _ _
  · exact atMost_bind fun p _ => inDomain_atMost t (p / b)

theorem scaledPow_atMost (t : STy) (a n : Nat) : AtMost (maxRaw t) (scaledPow t a n) :=
  powLoop_atMost (scaledMul_atMost t) _ (scale t) a n (by cases t <;> decide)

theorem fromInteger_atMost (t : STy) (n : Nat) : AtMost (maxRaw t) (fromInteger t n) :=
  atMost_check fun hc => Nat.mul_le_mul_right (scale t) (Nat.not_lt.mp hc)

theorem rateToDecimal_atMost (a : Nat) : AtMost (maxRaw .d) (rateToDecimal a) :=
  atMost_bind fun p _ => inDomain_atMost .d p

/-- The inclusive bound `255 * 10^18` is the Rate ceiling after the division (90_conflicts.md C2). -/
theorem decimalToRate_atMost (a : Nat) : AtMost (maxRaw .r) (decimalToRate a) := by
  rw [decimalToRate_eq, maxRaw_r]
  exact atMost_check fun hc => by omega

theorem toFloor_le (t : STy) (a : Nat) : toFloor t a ≤ a := Nat.div_le_self a _

/-- Rounding up adds one only where there is a remainder, which the quotient leaves room for. -/
theorem toCeil_le (t : STy) (a : Nat) : toCeil t a ≤ a := by
  have hscale : 2 ≤ scale t := by cases t <;> decide
  unfold toCeil
  split
  · exact Nat.div_le_self a _
  · next hrem =>
    have hpos : 0 < a := Nat.pos_of_ne_zero fun h => hrem (by rw [h, Nat.zero_mod])
    exact Nat.div_lt_self hpos hscale

/-! ### Bounds on what a command leaves in `RES` (10_state.md R21) -/

/-- The largest number each command can leave in `RES`: the ceiling of a scaled result's type, otherwise
the largest number of the command's width. -/
def resultMax : Instr → Nat
  | .saddD | .ssubD | .smulD | .sdivD | .spowD | .sfromintD | .scvtR2D => maxRaw .d
  | .saddR | .ssubR | .smulR | .sdivR | .spowR | .sfromintR | .scvtD2R => maxRaw .r
  | .wadd192 | .wsub192 | .wmul192 | .wdiv192 | .wpow192 | .wshl192 | .wshr192 | .wcmp192
  | .stofloorD | .stoceilD => widthMax .w192
  | .wadd128 | .wsub128 | .wmul128 | .wdiv128 | .wpow128 | .wshl128 | .wshr128 | .wcmp128
  | .stofloorR | .stoceilR => widthMax .w128

/-- The commands whose result has at most 128 bits (10_state.md R21). -/
def narrowResults : List Instr :=
  [.wadd128, .wsub128, .wmul128, .wdiv128, .wpow128, .wshl128, .wshr128, .wcmp128, .saddR, .ssubR, .smulR,
    .sdivR, .spowR, .sfromintR, .stofloorR, .stoceilR, .scvtR2D, .scvtD2R]

/-- The commands whose result is a Decimal (10_state.md R21). -/
def decimalResults : List Instr := [.saddD, .ssubD, .smulD, .sdivD, .spowD, .sfromintD, .scvtR2D]

/-- The commands whose result is a Rate (10_state.md R21). -/
def rateResults : List Instr := [.saddR, .ssubR, .smulR, .sdivR, .spowR, .sfromintR, .scvtD2R]

theorem resultMax_lt_of_narrow : ∀ i ∈ narrowResults, resultMax i < 2 ^ 128 := by decide

theorem resultMax_le_of_decimal :
    ∀ i ∈ decimalResults, resultMax i ≤ 18446744073709551615000000000000000000 := by decide

theorem resultMax_le_of_rate : ∀ i ∈ rateResults, resultMax i ≤ 25500000000 := by decide

/-- A two-operand command records an outcome within the bound its rule keeps on operands of the width. -/
theorem binaryCommand_atMost {w : Width} {f : Nat → Nat → Except Err Nat} {top : Nat}
    (hf : ∀ a b, a ≤ widthMax w → AtMost top (f a b)) (s : State) :
    ∃ o, binaryCommand w f s = .next (s.finish o) ∧ AtMost top o :=
  ⟨_, rfl, atMost_bind fun a ha => atMost_bind fun b _ => hf a b (operand_atMost w s.opa a ha)⟩

/-- A one-operand command records an outcome within the bound its rule keeps on an operand of the width. -/
theorem unaryCommand_atMost {w : Width} {f : Nat → Except Err Nat} {top : Nat}
    (hf : ∀ a, a ≤ widthMax w → AtMost top (f a)) (s : State) :
    ∃ o, unaryCommand w f s = .next (s.finish o) ∧ AtMost top o :=
  ⟨_, rfl, atMost_bind fun a ha => hf a (operand_atMost w s.opa a ha)⟩

/-- Every command records an outcome within its bound. -/
theorem exec_atMost (i : Instr) (s : State) :
    ∃ o, exec i s = .next (s.finish o) ∧ AtMost (resultMax i) o := by
  cases i with
  | wadd192 | wadd128 => exact binaryCommand_atMost (fun a b _ => checkedAdd_atMost _ a b) s
  | wsub192 | wsub128 => exact binaryCommand_atMost (fun _ b ha => checkedSub_atMost ha b) s
  | wmul192 | wmul128 => exact binaryCommand_atMost (fun a b _ => checkedMul_atMost _ a b) s
  | wdiv192 | wdiv128 => exact binaryCommand_atMost (fun _ b ha => checkedDiv_atMost ha b) s
  | wpow192 | wpow128 => exact binaryCommand_atMost (fun a n _ => checkedPow_atMost _ a n) s
  | wshl192 | wshl128 => exact binaryCommand_atMost (fun a n _ => atMost_ok (shl_le _ a n)) s
  | wshr192 | wshr128 => exact binaryCommand_atMost (fun a n ha => atMost_ok ((shr_le _ a n).trans ha)) s
  | wcmp192 | wcmp128 => exact binaryCommand_atMost (fun a b _ => atMost_ok (wideCmp_le _ a b)) s
  | saddD | saddR => exact binaryCommand_atMost (fun a b _ => scaledAdd_atMost _ a b) s
  | ssubD | ssubR => exact binaryCommand_atMost (fun a b _ => scaledSub_atMost _ a b) s
  | smulD | smulR => exact binaryCommand_atMost (fun a b _ => scaledMul_atMost _ a b) s
  | sdivD | sdivR => exact binaryCommand_atMost (fun a b _ => scaledDiv_atMost _ a b) s
  | spowD | spowR => exact binaryCommand_atMost (fun a n _ => scaledPow_atMost _ a n) s
  | sfromintD | sfromintR => exact unaryCommand_atMost (fun a _ => fromInteger_atMost _ a) s
  | stofloorD | stofloorR => exact unaryCommand_atMost (fun a ha => atMost_ok ((toFloor_le _ a).trans ha)) s
  | stoceilD | stoceilR => exact unaryCommand_atMost (fun a ha => atMost_ok ((toCeil_le _ a).trans ha)) s
  | scvtD2R => exact unaryCommand_atMost (fun a _ => decimalToRate_atMost a) s
  | scvtR2D => exact unaryCommand_atMost (fun a _ => rateToDecimal_atMost a) s

/-- Settles O42: every command records an outcome within `resultMax`, which keeps the rule's
three bounds on its three lists. -/
theorem resultsKeepTheirBounds : Obligations.ResultsKeepTheirBounds := by
  intro i s
  obtain ⟨o, hexec, hmax⟩ := exec_atMost i s
  refine ⟨s.finish o, hexec, State.finish_statusGood s o, fun hcode => ?_⟩
  have hres : (s.finish o).res.toNat ≤ resultMax i := State.finish_res_le hmax hcode
  exact ⟨fun hi => hres.trans_lt (resultMax_lt_of_narrow i hi),
    fun hi => hres.trans (resultMax_le_of_decimal i hi), fun hi => hres.trans (resultMax_le_of_rate i hi)⟩

/-! ### Named registers at the port -/

/-- A read of a readable register at its own offset answers its content (20_memory.md R33). -/
theorem portRead_of_readReg {s : State} {r : WindowReg} {v : Limb} (h : readReg s r = some v) :
    portRead (regOffset r) 8 s = .ok v :=
  portRead_eq_ok.mpr ⟨r, rfl, rfl, h⟩

/-- A read of a register that cannot be read is a bus error (20_memory.md R35). -/
theorem portRead_of_unreadable {s : State} {r : WindowReg} (h : readReg s r = none) :
    portRead (regOffset r) 8 s = .error .busError := by
  simp only [portRead, selectReg_regOffset, Option.bind_some, h]

/-- A write to a register that cannot be written is a bus error (20_memory.md R35). -/
theorem portWrite_of_unwritable {s : State} {r : WindowReg} {v : Limb} (h : writeReg s r v = none) :
    portWrite (regOffset r) 8 v s = .error .busError := by
  simp only [portWrite, selectReg_regOffset, Option.bind_some, h]

/-- Settles O7: the fields of the reset state, and its registers `STATUS`, `ID` and `CMD` at the port. -/
theorem resetLeavesEveryRegisterDefined : Obligations.ResetLeavesEveryRegisterDefined := by
  have hstatus : portRead (regOffset .status) 8 State.reset = .ok 0 := portRead_of_readReg rfl
  have hid : portRead (regOffset .id) 8 State.reset = .ok idWord := portRead_of_readReg rfl
  have hcmd : portRead (regOffset .cmd) 8 State.reset = .error .busError := portRead_of_unreadable rfl
  exact ⟨rfl, rfl, rfl, rfl, hstatus, hid, hcmd⟩

/-- The fields of `ID`: VERSION, MAGIC, LIMB_BITS, LIMBS and zeros (10_state.md R16). -/
theorem idWord_fields :
    idWord.extractLsb' 0 16 = 0x0001 ∧ idWord.extractLsb' 16 16 = 0x4457 ∧ idWord.extractLsb' 32 8 = 0x40 ∧
      idWord.extractLsb' 40 8 = 0x03 ∧ idWord.extractLsb' 48 16 = 0 := by
  decide

/-- Settles O16: `ID` reads `idWord` whatever the state holds, and no write reaches it. -/
theorem identityRegisterIsConstant : Obligations.IdentityRegisterIsConstant := by
  intro s v
  have hwrite : portWrite (regOffset .id) 8 v s = .error .busError := portWrite_of_unwritable rfl
  have hread : portRead (regOffset .id) 8 s = .ok idWord := portRead_of_readReg rfl
  exact ⟨hwrite, idWord, hread, rfl, idWord_fields⟩

end Sys2Proof.Machine

/-! PROOFS. The register window and the port (20_memory.md): arrival order (R38, R41), the register map
by address (R26, R33, R34), the accepted and the refused accesses (R30, R31, R35), reads (R32), and the
byte view of the window (R28, R29). -/

namespace Sys2Proof.Machine

/-! ### One event, and what is pending behind it -/

/-- A step with something pending serves the oldest event, with the others still pending
(20_memory.md R38). -/
theorem step_of_pending {s : State} {e : Event} {rest : List Event} (h : s.pending = e :: rest) :
    step s = handleEvent e (s.setPending rest) := by
  simp only [step, serveNext, h]

/-- What a read gives back to the host: the value, or the refusal (20_memory.md R35). -/
def readAnswer : Except Fault Limb → Answer
  | .ok v => .data v
  | .error f => .refused f

/-- A performed read records the port's answer and does nothing else (20_memory.md R32, R35). -/
theorem perform_read_eq (o : Int) (n : Nat) (s : State) :
    perform (.read o n) s = .next (s.reply (readAnswer (portRead o n s))) := by
  cases h : portRead o n s <;> simp only [perform, h, readAnswer]

/-- A refused write records the refusal and does nothing else (20_memory.md R35). -/
theorem perform_write_refused {o : Int} {n : Nat} {v : Limb} {s : State}
    (h : portWrite o n v (s.reply .done) = .error .busError) :
    perform (.write o n v) s = .next (s.reply (.refused .busError)) := by
  simp only [perform, h]

/-- An access that selects no register cannot be a write (20_memory.md R27, R30). -/
theorem portWrite_of_unselected {o : Int} {n : Nat} (h : selectReg o n = none) (v : Limb) (s : State) :
    portWrite o n v s = .error .busError := by
  simp only [portWrite, h, Option.bind_none]

/-- An access that selects no register cannot be a read (20_memory.md R27, R30). -/
theorem portRead_of_unselected {o : Int} {n : Nat} (h : selectReg o n = none) (s : State) :
    portRead o n s = .error .busError := by
  simp only [portRead, h, Option.bind_none]

/-- The registers read the same whatever is pending. -/
@[simp] theorem readReg_setPending (s : State) (es : List Event) :
    readReg (s.setPending es) = readReg s := by
  funext r
  cases r <;> rfl

/-- The registers read the same whatever was answered last. -/
@[simp] theorem readReg_reply (s : State) (a : Answer) : readReg (s.reply a) = readReg s := by
  funext r
  cases r <;> rfl

@[simp] theorem portRead_setPending (o : Int) (n : Nat) (s : State) (es : List Event) :
    portRead o n (s.setPending es) = portRead o n s := by
  simp only [portRead, readReg_setPending]

@[simp] theorem portRead_reply (o : Int) (n : Nat) (s : State) (a : Answer) :
    portRead o n (s.reply a) = portRead o n s := by
  simp only [portRead, readReg_reply]

/-- Recording an outcome commutes with a change of what is pending. -/
theorem State.finish_setPending (s : State) (o : Except Err Nat) (es : List Event) :
    (s.setPending es).finish o = (s.finish o).setPending es := by
  cases o <;> rfl

/-- What a write does is settled before anything behind it in the list is looked at. -/
theorem perform_write_pending (o : Int) (n : Nat) (v : Limb) (s : State) :
    ∃ t : State, ∀ rest, perform (.write o n v) (s.setPending rest) = .next (t.setPending rest) := by
  cases hsel : selectReg o n with
  | none =>
    exact ⟨s.reply (.refused .busError), fun _ => perform_write_refused (portWrite_of_unselected hsel v _)⟩
  | some r =>
    obtain ⟨rfl, rfl⟩ := selectReg_eq_some.mp hsel
    cases r with
    | opa k => exact ⟨(s.reply .done).writeOpa k v, fun _ => perform_write_opa _ k v⟩
    | opb k => exact ⟨(s.reply .done).writeOpb k v, fun _ => perform_write_opb _ k v⟩
    | cmd =>
      obtain ⟨f, hf⟩ := execute_outcome v
      refine ⟨(s.reply .done).finish (f s.opa s.opb), fun rest => ?_⟩
      rw [perform_write_cmd, hf, ← State.finish_setPending]
      rfl
    | res _ | status | id =>
      exact ⟨s.reply (.refused .busError), fun _ => perform_write_refused (portWrite_of_unwritable rfl)⟩

/-- Serving an event neither reads nor changes what is pending behind it (20_memory.md R38). -/
theorem handleEvent_pending (e : Event) (s : State) :
    ∃ t : State, ∀ rest, handleEvent e (s.setPending rest) = .next (t.setPending rest) := by
  match e with
  | .reset => exact ⟨State.reset, fun _ => rfl⟩
  | .access (.read o n) =>
    refine ⟨s.reply (readAnswer (portRead o n s)), fun rest => ?_⟩
    rw [handleEvent, perform_read_eq, portRead_setPending]
    rfl
  | .access (.write o n v) => exact perform_write_pending o n v s

/-- A run goes on from the state its first step answers. -/
theorem run_succ_of_step {s t : State} (h : step s = .next t) (k : Nat) :
    Host.Core.run Sys2Proof.core (k + 1) s = Host.Core.run Sys2Proof.core k t := by
  have hcore : Sys2Proof.core.step s = .next t := h
  simp only [Host.Core.run, hcore]

/-- Settles O5, by induction on the events served: each is served without a look at those behind it. -/
theorem accessesAreServedInArrivalOrder : Obligations.AccessesAreServedInArrivalOrder := by
  intro es
  induction es with
  | nil => exact fun s => ⟨s, fun _ => rfl⟩
  | cons e es ih =>
    intro s
    obtain ⟨u, hu⟩ := handleEvent_pending e s
    obtain ⟨t, ht⟩ := ih u
    refine ⟨t, fun rest => ?_⟩
    have hstep : step (s.setPending (e :: (es ++ rest))) = .next (u.setPending (es ++ rest)) :=
      hu (es ++ rest)
    exact (run_succ_of_step hstep es.length).trans (ht rest)

/-! ### The register map by address -/

/-- A host address is refused at once, or it is one of the sixteen aligned offsets of the window
(20_memory.md R25, R33). -/
theorem address_cases (addr : Nat) :
    (addr % 8 ≠ 0 ∨ addr < Config.base ∨ Config.base + 128 ≤ addr) ∨
      ∃ j < 16, addr = Config.base + 8 * j := by
  have hbase := Config.dvd_base
  by_cases h : addr % 8 ≠ 0 ∨ addr < Config.base ∨ Config.base + 128 ≤ addr
  · exact .inl h
  · exact .inr ⟨(addr - Config.base) / 8, by omega, by omega⟩

/-- The tests `MemRead` and `MemWrite` begin with (20_memory.md R33, R34): where one fails, nothing is selected. -/
theorem selectReg_of_refused_address {addr : Nat} (n : Nat)
    (h : addr % 8 ≠ 0 ∨ addr < Config.base ∨ Config.base + 128 ≤ addr) :
    selectReg ((addr : Int) - (Config.base : Int)) n = none := by
  have hbase := Config.dvd_base
  exact if_pos (by omega)

/-- Those tests pass at an aligned offset of the window. -/
theorem not_refused_address {j : Nat} (hj : j < 16) :
    ¬ ((Config.base + 8 * j) % 8 ≠ 0 ∨ Config.base + 8 * j < Config.base ∨
      Config.base + 128 ≤ Config.base + 8 * j) := by
  have hbase := Config.dvd_base
  omega

/-- Settles O9: outside the sixteen aligned offsets no register is selected, and at each of them the
port reads what the register map says. -/
theorem memReadFollowsTheRegisterMap : Obligations.MemReadFollowsTheRegisterMap := by
  intro s addr
  obtain h | ⟨j, hj, rfl⟩ := address_cases addr
  · rw [if_pos h]
    exact portRead_of_unselected (selectReg_of_refused_address 8 h) s
  · rw [if_neg (not_refused_address hj), memRead_at, Nat.add_sub_cancel_left]
    interval_cases j <;> rfl

/-- A concatenation as a number. -/
theorem toNat_append_eq_add {m n : Nat} (a : BitVec m) (b : BitVec n) :
    (a ++ b).toNat = 2 ^ n * a.toNat + b.toNat := by
  rw [BitVec.toNat_append, ← Nat.shiftLeft_add_eq_or_of_lt b.isLt, Nat.shiftLeft_eq, Nat.mul_comm]

/-- A write to limb 0 keeps the upper 128 bits (20_memory.md R34). -/
theorem setLimb_zero (v : Wide) (x : Limb) : setLimb v 0 x = v.extractLsb' 64 128 ++ x := by
  have hv := v.isLt
  refine BitVec.eq_of_toNat_eq ((setLimb_toNat v 0 x).trans (.trans ?_ (toNat_append_eq_add _ _).symm))
  simp only [limb, BitVec.extractLsb'_toNat, Nat.shiftRight_eq_div_pow]
  norm_num at *
  omega

/-- A write to limb 1 keeps the 64 bits on either side (20_memory.md R34). -/
theorem setLimb_one (v : Wide) (x : Limb) :
    setLimb v 1 x = v.extractLsb' 128 64 ++ x ++ v.extractLsb' 0 64 := by
  have hv := v.isLt
  refine BitVec.eq_of_toNat_eq ((setLimb_toNat v 1 x).trans (.trans ?_ (toNat_append_eq_add _ _).symm))
  simp only [toNat_append_eq_add, limb, BitVec.extractLsb'_toNat, Nat.shiftRight_eq_div_pow]
  norm_num at *
  omega

/-- A write to limb 2 keeps the lower 128 bits (20_memory.md R34). -/
theorem setLimb_two (v : Wide) (x : Limb) : setLimb v 2 x = x ++ v.extractLsb' 0 128 := by
  have hv := v.isLt
  refine BitVec.eq_of_toNat_eq ((setLimb_toNat v 2 x).trans (.trans ?_ (toNat_append_eq_add _ _).symm))
  simp only [limb, BitVec.extractLsb'_toNat, Nat.shiftRight_eq_div_pow]
  norm_num at *
  omega

/-- Settles O10: outside the sixteen aligned offsets no register is selected, and at each of them the
port replaces the limb of the register map, executes, or refuses. -/
theorem memWriteReplacesOneLimbOrExecutes : Obligations.MemWriteReplacesOneLimbOrExecutes := by
  intro s addr v
  obtain h | ⟨j, hj, rfl⟩ := address_cases addr
  · rw [if_pos h]
    exact portWrite_of_unselected (selectReg_of_refused_address 8 h) v s
  · rw [if_neg (not_refused_address hj), memWrite_at, Nat.add_sub_cancel_left]
    simp only [← setLimb_zero, ← setLimb_one, ← setLimb_two]
    interval_cases j <;> rfl

/-! ### Accepted and refused accesses -/

/-- Every offset of the register map is aligned (20_memory.md R26). -/
theorem regOffset_mod_eight (r : WindowReg) : regOffset r % 8 = 0 := by
  cases r <;> simp only [regOffset] <;> omega

/-- The reads of the list are the reads the port answers with a value: those of every register but `CMD`
(20_memory.md R31). -/
theorem readWellFormed_iff {o : Int} {n : Nat} {s : State} :
    readWellFormed o n = true ↔ ∃ v, portRead o n s = .ok v := by
  constructor
  · intro h
    simp only [readWellFormed, readableOffsets, Bool.and_eq_true, beq_iff_eq, List.contains_eq_mem,
      decide_eq_true_eq, List.mem_cons, List.not_mem_nil, or_false] at h
    obtain ⟨⟨rfl, -⟩, ho⟩ := h
    obtain rfl | rfl | rfl | rfl | rfl | rfl | rfl | rfl | rfl | rfl | rfl := ho <;> exact ⟨_, rfl⟩
  · rintro ⟨v, hv⟩
    obtain ⟨r, rfl, rfl, hr⟩ := portRead_eq_ok.mp hv
    cases r with
    | opa k | opb k | res k => obtain rfl | rfl | rfl := limbIndex_cases k <;> rfl
    | cmd => cases hr
    | status | id => rfl

/-- A refused read is answered with the bus error, the port's only refusal (20_memory.md R35). -/
theorem portRead_of_not_wellFormed {o : Int} {n : Nat} (h : readWellFormed o n = false) (s : State) :
    portRead o n s = .error .busError := by
  cases hr : portRead o n s with
  | ok v => rw [readWellFormed_iff.mpr ⟨v, hr⟩] at h; cases h
  | error f => cases f; rfl

/-- The writes of the list are the writes the port performs: those to the operand limbs and to `CMD`
(20_memory.md R31). -/
theorem writeWellFormed_iff {o : Int} {n : Nat} {v : Limb} {s : State} :
    writeWellFormed o n = true ↔ ∃ t, portWrite o n v s = .ok t := by
  constructor
  · intro h
    simp only [writeWellFormed, writableOffsets, Bool.and_eq_true, beq_iff_eq, List.contains_eq_mem,
      decide_eq_true_eq, List.mem_cons, List.not_mem_nil, or_false] at h
    obtain ⟨⟨rfl, -⟩, ho⟩ := h
    obtain rfl | rfl | rfl | rfl | rfl | rfl | rfl := ho <;> exact ⟨_, rfl⟩
  · rintro ⟨t, ht⟩
    obtain ⟨r, rfl, rfl, hr⟩ := portWrite_eq_ok.mp ht
    cases r with
    | opa k | opb k => obtain rfl | rfl | rfl := limbIndex_cases k <;> rfl
    | cmd => rfl
    | res k | status | id => cases hr

/-- A performed write answers a next state, whichever register it is to (20_memory.md R34). -/
theorem portWrite_next {o : Int} {n : Nat} {v : Limb} {s : State} {t : Host.Outcome State Fault Refusal}
    (h : portWrite o n v s = .ok t) : ∃ u, t = .next u := by
  obtain ⟨r, -, -, hr⟩ := portWrite_eq_ok.mp h
  cases r with
  | opa k | opb k => cases hr; exact ⟨_, rfl⟩
  | cmd =>
    cases hr
    obtain ⟨c, hc⟩ := execute_finishes v s
    exact ⟨s.finish c, hc⟩
  | res k | status | id => cases hr

/-- A refused write is answered with the bus error, the port's only refusal (20_memory.md R35). -/
theorem portWrite_of_not_wellFormed {o : Int} {n : Nat} (h : writeWellFormed o n = false) (v : Limb)
    (s : State) : portWrite o n v s = .error .busError := by
  cases hw : portWrite o n v s with
  | ok t => rw [writeWellFormed_iff.mpr ⟨t, hw⟩] at h; cases h
  | error f => cases f; rfl

/-- Settles O11: an access is of the rule's lists exactly when the port accepts it. -/
theorem portAcceptsExactlyTheListedAccesses : Obligations.PortAcceptsExactlyTheListedAccesses := by
  intro s o n v
  refine ⟨fun h => readWellFormed_iff.mp h, fun h => portRead_of_not_wellFormed h s, fun h => ?_,
    fun h => portWrite_of_not_wellFormed h v s⟩
  obtain ⟨t, ht⟩ := writeWellFormed_iff.mp h
  obtain ⟨u, rfl⟩ := portWrite_next ht
  exact ⟨u, ht⟩

/-- Settles O12: the access is taken, the port refuses it, and only the refusal is recorded. -/
theorem refusedAccessChangesNoRegister : Obligations.RefusedAccessChangesNoRegister := by
  intro s o n v rest
  constructor
  · intro hp h
    rw [step_of_pending hp, handleEvent, perform_read_eq, portRead_of_not_wellFormed h]
    rfl
  · intro hp h
    rw [step_of_pending hp, handleEvent, perform_write_refused (portWrite_of_not_wellFormed h v _)]
    rfl

/-! ### Reads -/

/-- A step that serves a read records the port's answer in the state it finds (20_memory.md R32, R33). -/
theorem step_of_read {s : State} {o : Int} {n : Nat} {rest : List Event}
    (h : s.pending = .access (.read o n) :: rest) :
    step s = .next ((s.setPending rest).reply (readAnswer (portRead o n s))) := by
  rw [step_of_pending h, handleEvent, perform_read_eq, portRead_setPending]

/-- Settles O13: the port's answer is read off the registers, which a read leaves alone. -/
theorem readsHaveNoSideEffect : Obligations.ReadsHaveNoSideEffect := by
  intro s o n rest hp
  refine ⟨readAnswer (portRead o n s), fun v h => by rw [h, readAnswer], fun f h => by rw [h, readAnswer],
    step_of_read hp, fun later => ?_⟩
  have hagain : portRead o n ((s.setPending (.access (.read o n) :: later)).reply
      (readAnswer (portRead o n s))) = portRead o n s := by
    rw [portRead_reply, portRead_setPending]
  have hstep := step_of_read (s := (s.setPending (.access (.read o n) :: later)).reply
    (readAnswer (portRead o n s))) rfl
  rwa [hagain] at hstep

/-! ### The bytes of the window -/

/-- Limb `k` of `OPA` is the only register a write to it changes (20_memory.md R34). -/
theorem readReg_writeOpa (s : State) (k : Fin 3) (v : Limb) (r : WindowReg) :
    readReg (s.writeOpa k v) r = if r = .opa k then some v else readReg s r := by
  cases r with
  | opa j => simp only [readReg, State.writeOpa_opa, limb_setLimb, WindowReg.opa.injEq, apply_ite some]
  | _ => rfl

/-- Limb `k` of `OPB` is the only register a write to it changes (20_memory.md R34). -/
theorem readReg_writeOpb (s : State) (k : Fin 3) (v : Limb) (r : WindowReg) :
    readReg (s.writeOpb k v) r = if r = .opb k then some v else readReg s r := by
  cases r with
  | opb j => simp only [readReg, State.writeOpb_opb, limb_setLimb, WindowReg.opb.injEq, apply_ite some]
  | _ => rfl

/-- Byte `i` of a register is at its offset plus `i` (20_memory.md R28). -/
theorem windowByte_of_regAt {s : State} {o i : Nat} {r : WindowReg} (hr : regAt o = some r) (hi : i < 8) :
    windowByte s (o + i) = (readReg s r).map fun v => v.extractLsb' (8 * i) 8 := by
  have ho : o % 8 = 0 := by
    have := regAt_eq_some hr
    have := regOffset_mod_eight r
    omega
  have hbase : (o + i) / 8 * 8 = o := by omega
  have hbyte : (o + i) % 8 = i := by omega
  rw [windowByte, hbase, hbyte, hr, Option.bind_some]

/-- Where two states differ in one register only, every byte outside its eight is the same
(20_memory.md R28). -/
theorem windowByte_congr_of_outside {s t : State} {o : Nat} {r : WindowReg} (hr : regAt o = some r)
    (h : ∀ r', r' ≠ r → readReg t r' = readReg s r') {k : Nat} (hk : k < o ∨ o + 8 ≤ k) :
    windowByte t k = windowByte s k := by
  unfold windowByte
  cases hk' : regAt (k / 8 * 8) with
  | none => rfl
  | some r' =>
    have hne : r' ≠ r := by
      rintro rfl
      have := regAt_eq_some hr
      have := regAt_eq_some hk'
      omega
    rw [Option.bind_some, Option.bind_some, h r' hne]

/-- What a limb write does to the bytes of the window: the eight bytes of the limb are those of the
value, every other byte is as before (20_memory.md R28, R32). -/
theorem windowByte_of_limb_write {s t : State} {o : Nat} {r : WindowReg} {v : Limb}
    (hr : regAt o = some r) (h : ∀ r', readReg t r' = if r' = r then some v else readReg s r') :
    (∀ i < 8, windowByte t (o + i) = some (v.extractLsb' (8 * i) 8)) ∧
      ∀ k, (k < o ∨ o + 8 ≤ k) → windowByte t k = windowByte s k := by
  refine ⟨fun i hi => ?_, fun k hk => windowByte_congr_of_outside hr (fun r' hne => ?_) hk⟩
  · rw [windowByte_of_regAt hr hi, h r, if_pos rfl, Option.map_some]
  · rw [h r', if_neg hne]

/-- The bytes of the window are those of the registers: taking an access and answering it moves none. -/
theorem windowByte_reply_setPending (s : State) (es : List Event) (a : Answer) (k : Nat) :
    windowByte ((s.setPending es).reply a) k = windowByte s k := by
  simp only [windowByte, readReg_reply, readReg_setPending]

/-- The six offsets of the operand limbs (20_memory.md R26). -/
theorem operandLimb_cases {o : Nat} (h : o ∈ [0x00, 0x08, 0x10, 0x20, 0x28, 0x30]) :
    (∃ k, regAt o = some (.opa k) ∧ o < 0x20) ∨ ∃ k, regAt o = some (.opb k) ∧ 0x20 ≤ o := by
  revert o
  decide

/-- Settles O14: the register at the offset is a limb of one operand, and the write replaces it. -/
theorem limbWriteStoresItsEightBytesOnly : Obligations.LimbWriteStoresItsEightBytesOnly := by
  intro s o v rest hmem hp
  obtain ⟨k, hr, ho⟩ | ⟨k, hr, ho⟩ := operandLimb_cases hmem
  · obtain ⟨hin, hout⟩ := windowByte_of_limb_write hr
      (readReg_writeOpa ((s.setPending rest).reply .done) k v)
    refine ⟨((s.setPending rest).reply .done).writeOpa k v, ?_, hin, fun i hi => ?_, fun _ => rfl,
      fun h => absurd ho h.not_gt, rfl, rfl, rfl, rfl⟩
    · rw [step_of_pending hp, handleEvent, regAt_eq_some hr, perform_write_opa]
    · rw [hout i hi, windowByte_reply_setPending]
  · obtain ⟨hin, hout⟩ := windowByte_of_limb_write hr
      (readReg_writeOpb ((s.setPending rest).reply .done) k v)
    refine ⟨((s.setPending rest).reply .done).writeOpb k v, ?_, hin, fun i hi => ?_,
      fun h => absurd h ho.not_gt, fun _ => rfl, rfl, rfl, rfl, rfl⟩
    · rw [step_of_pending hp, handleEvent, regAt_eq_some hr, perform_write_opb]
    · rw [hout i hi, windowByte_reply_setPending]

/-! ### Byte buffers -/

/-- The value of two little-endian byte lists one after the other. -/
theorem valueOfBytes_append (a b : List Byte) :
    valueOfBytes (a ++ b) = valueOfBytes a + 256 ^ a.length * valueOfBytes b := by
  induction a with
  | nil => simp [valueOfBytes]
  | cons x a ih => simp only [List.cons_append, valueOfBytes, ih, List.length_cons]; ring

/-- The lowest `n` bytes of a word spell its remainder by `256 ^ n`. -/
theorem valueOfBytes_low_bytes {m : Nat} (w : BitVec m) (n : Nat) :
    valueOfBytes ((List.range n).map fun i => w.extractLsb' (8 * i) 8) = w.toNat % 256 ^ n := by
  induction n with
  | zero => simp [valueOfBytes, Nat.mod_one]
  | succ n ih =>
    have hbyte : (w.extractLsb' (8 * n) 8).toNat = w.toNat / 256 ^ n % 256 := by
      rw [BitVec.extractLsb'_toNat, Nat.shiftRight_eq_div_pow, Nat.pow_mul]
    rw [List.range_succ, List.map_append, valueOfBytes_append, ih, List.length_map, List.length_range,
      Nat.pow_succ, Nat.mod_mul, ← hbyte]
    rfl

/-- The eight bytes of a limb spell it (20_memory.md R28). -/
theorem valueOfBytes_bytesOfWord (w : Limb) : valueOfBytes (bytesOfWord w) = w.toNat := by
  rw [bytesOfWord, valueOfBytes_low_bytes]
  exact Nat.mod_eq_of_lt w.isLt

@[simp] theorem length_bytesOfWord (w : Limb) : (bytesOfWord w).length = 8 := by
  simp only [bytesOfWord, List.length_map, List.length_range]

/-- A buffer of the window is the buffer of its first bytes, then that of the others. -/
theorem windowBytes_add (s : State) (o m n : Nat) :
    windowBytes s o (m + n) = windowBytes s o m ++ windowBytes s (o + m) n := by
  simp only [windowBytes, List.range_add, List.filterMap_append, List.filterMap_map, Function.comp_def,
    Nat.add_assoc]

/-- The eight bytes of the window at a readable register are the bytes of its content
(20_memory.md R28). -/
theorem windowBytes_of_readReg {s : State} {o : Nat} {r : WindowReg} {v : Limb} (hr : regAt o = some r)
    (hv : readReg s r = some v) : windowBytes s o 8 = bytesOfWord v := by
  rw [windowBytes, bytesOfWord, ← List.filterMap_eq_map]
  refine List.filterMap_congr fun i hi => ?_
  rw [windowByte_of_regAt hr (List.mem_range.mp hi), hv]
  rfl

/-- The three limbs of a 192-bit register from offset `o` on, as byte buffers: 24 bytes of a Decimal, and
16 bytes of a Rate with eight zero bytes above them (20_memory.md R29). -/
theorem valueOfBytes_wide {s : State} {o : Nat} {v : Wide} {r : Fin 3 → WindowReg}
    (hr : ∀ k : Fin 3, regAt (o + 8 * k.val) = some (r k)) (hv : ∀ k, readReg s (r k) = some (limb v k)) :
    valueOfBytes (windowBytes s o 24) = v.toNat ∧
      (v.toNat < 2 ^ 128 →
        valueOfBytes (windowBytes s o 16) = v.toNat ∧
          windowBytes s (o + 0x10) 8 = List.replicate 8 0) := by
  have h0 : windowBytes s o 8 = bytesOfWord (limb v 0) := windowBytes_of_readReg (hr 0) (hv 0)
  have h1 : windowBytes s (o + 8) 8 = bytesOfWord (limb v 1) := windowBytes_of_readReg (hr 1) (hv 1)
  have h2 : windowBytes s (o + 16) 8 = bytesOfWord (limb v 2) := windowBytes_of_readReg (hr 2) (hv 2)
  have hlow : windowBytes s o 16 = bytesOfWord (limb v 0) ++ bytesOfWord (limb v 1) := by
    rw [windowBytes_add s o 8 8, h0, h1]
  have hall : windowBytes s o 24 =
      bytesOfWord (limb v 0) ++ bytesOfWord (limb v 1) ++ bytesOfWord (limb v 2) := by
    rw [windowBytes_add s o 16 8, hlow, h2]
  refine ⟨?_, fun hlt => ?_⟩
  · simp only [limb_sum v, hall, valueOfBytes_append, valueOfBytes_bytesOfWord, List.length_append,
      length_bytesOfWord]
    rfl
  · have hsum := limb_sum v
    have htop : limb v 2 = 0 := BitVec.eq_of_toNat_eq (show (limb v 2).toNat = 0 by omega)
    refine ⟨?_, ?_⟩
    · simp only [hsum, htop, hlow, valueOfBytes_append, valueOfBytes_bytesOfWord, length_bytesOfWord]
      rfl
    · rw [h2, htop]
      rfl

/-- Settles O15: each of `OPA`, `OPB` and `RES` stands in the window as its three limbs. -/
theorem byteBuffersAreLittleEndian : Obligations.ByteBuffersAreLittleEndian := by
  intro s
  obtain ⟨hopa24, hopa16⟩ := valueOfBytes_wide (s := s) (o := 0x00) (r := .opa) (by decide) fun _ => rfl
  obtain ⟨hopb24, hopb16⟩ := valueOfBytes_wide (s := s) (o := 0x20) (r := .opb) (by decide) fun _ => rfl
  obtain ⟨hres24, hres16⟩ := valueOfBytes_wide (s := s) (o := 0x40) (r := .res) (by decide) fun _ => rfl
  exact ⟨hopa24, hopb24, hres24, hopa16, hopb16, hres16⟩

end Sys2Proof.Machine

/-! PROOFS. The command words (30_encoding.md): the decoder and the encoder on every word (R47, R55), the
illegal words (R49), the step that runs a command word (R55, 20_memory.md R41), and the script lines
(R53, R54). -/

namespace Sys2Proof.Machine

/-! ### From a command to its word and back -/

/-- The round trip of every command (30_encoding.md R47), collected from its one lemma per command. -/
theorem roundTrip (i : Instr) : Laws.RoundTrip.Statement i :=
  open Laws.RoundTrip in
  i.rec wadd192 wsub192 wmul192 wdiv192 wpow192 wshl192 wshr192 wcmp192
    saddD ssubD smulD sdivD spowD sfromintD stofloorD stoceilD scvtD2R
    wadd128 wsub128 wmul128 wdiv128 wpow128 wshl128 wshr128 wcmp128
    saddR ssubR smulR sdivR spowR sfromintR stofloorR stoceilR scvtR2D

@[simp] theorem decode_encode (i : Instr) : decode (encode i) = .ok i := by
  obtain ⟨-, hdecode, -⟩ := roundTrip i
  exact hdecode

/-! ### From a word to its command -/

/-- A `CLS = 0` function is a command up to 7, the one whose word has the fields `T` and `FN`
(30_encoding.md R47, R49). -/
theorem decodeWide_cases (t : Bool) (fn : Nat) :
    (7 < fn ∧ decodeWide t fn = .error .wideFunction) ∨
    (fn ≤ 7 ∧ ∃ i, decodeWide t fn = .ok i ∧ (encode i).toNat = 32 * t.toNat + fn) := by
  by_cases h : fn ≤ 7
  · refine .inr ⟨h, ?_⟩
    interval_cases fn <;> cases t <;> exact ⟨_, rfl, rfl⟩
  · obtain ⟨n, rfl⟩ : ∃ n, fn = n + 8 := Nat.exists_eq_add_of_le' (Nat.not_le.mp h)
    exact .inl ⟨by omega, by cases t <;> rfl⟩

/-- A `CLS = 1` function is a command up to 8, the one whose word has `CLS` set and the fields `T` and
`FN` (30_encoding.md R47, R49). -/
theorem decodeScaled_cases (t : Bool) (fn : Nat) :
    (8 < fn ∧ decodeScaled t fn = .error .scaledFunction) ∨
    (fn ≤ 8 ∧ ∃ i, decodeScaled t fn = .ok i ∧ (encode i).toNat = 32 * t.toNat + 16 + fn) := by
  by_cases h : fn ≤ 8
  · refine .inr ⟨h, ?_⟩
    interval_cases fn <;> cases t <;> exact ⟨_, rfl, rfl⟩
  · obtain ⟨n, rfl⟩ : ∃ n, fn = n + 9 := Nat.exists_eq_add_of_le' (Nat.not_le.mp h)
    exact .inl ⟨by omega, by cases t <;> rfl⟩

/-- A bit of a word as a number. -/
theorem toNat_getLsbD {n : Nat} (w : BitVec n) (k : Nat) : (w.getLsbD k).toNat = w.toNat / 2 ^ k % 2 := by
  rw [BitVec.getLsbD, Nat.toNat_testBit]

/-- A field of a word as a number. -/
theorem toNat_extractLsb' {n : Nat} (w : BitVec n) (k m : Nat) :
    (w.extractLsb' k m).toNat = w.toNat / 2 ^ k % 2 ^ m := by
  rw [BitVec.extractLsb'_toNat, Nat.shiftRight_eq_div_pow]

/-- A field of a word is clear exactly when its number is zero. -/
theorem extractLsb'_eq_zero_iff {n : Nat} (w : BitVec n) (k m : Nat) :
    w.extractLsb' k m = 0 ↔ w.toNat / 2 ^ k % 2 ^ m = 0 := by
  rw [← toNat_extractLsb']
  exact BitVec.toNat_inj.symm

/-- The decoder's tests as `IllegalWord` spells them, on the number the word is (30_encoding.md R45, R55). -/
theorem decode_eq (w : CmdWord) :
    decode w =
      if w.toNat / 2 ^ 8 ≠ 0 then .error .highBits
      else if w.toNat / 2 ^ 6 % 4 ≠ 0 then .error .opcodeTopBits
      else if w.toNat / 2 ^ 4 % 2 = 1 then decodeScaled (w.getLsbD 5) (w.toNat % 16)
      else decodeWide (w.getLsbD 5) (w.toNat % 16) := by
  have hw : w.toNat < 2 ^ 64 := w.isLt
  have hhigh : w.extractLsb' 8 56 = 0 ↔ w.toNat / 2 ^ 8 = 0 := by
    rw [extractLsb'_eq_zero_iff]
    omega
  have htop : w.extractLsb' 6 2 = 0 ↔ w.toNat / 2 ^ 6 % 4 = 0 := extractLsb'_eq_zero_iff w 6 2
  have hcls : w.getLsbD 4 = true ↔ w.toNat / 2 ^ 4 % 2 = 1 := by
    rw [← toNat_getLsbD, Bool.toNat_eq_one]
  have hfn : (w.extractLsb' 0 4).toNat = w.toNat % 16 := by
    rw [toNat_extractLsb', Nat.pow_zero, Nat.div_one]
    rfl
  simp only [decode, ne_eq, hhigh, htop, hcls, hfn]

/-- The decoder is total: a word is illegal and rejected, or it is the word of the command it decodes to
(30_encoding.md R49, R55). -/
theorem decode_cases (w : CmdWord) :
    (IllegalWord w ∧ ∃ e, decode w = .error e) ∨
    (¬ IllegalWord w ∧ ∃ i, decode w = .ok i ∧ w = encode i) := by
  have ht := toNat_getLsbD w 5
  rw [decode_eq, IllegalWord]
  by_cases hhigh : w.toNat / 2 ^ 8 ≠ 0
  · exact .inl ⟨.inl hhigh, _, if_pos hhigh⟩
  by_cases htop : w.toNat / 2 ^ 6 % 4 ≠ 0
  · exact .inl ⟨.inr (.inl htop), _, by rw [if_neg hhigh, if_pos htop]⟩
  rw [if_neg hhigh, if_neg htop]
  by_cases hcls : w.toNat / 2 ^ 4 % 2 = 1
  · rw [if_pos hcls]
    obtain ⟨hfn, hdec⟩ | ⟨hfn, i, hdec, hword⟩ := decodeScaled_cases (w.getLsbD 5) (w.toNat % 16)
    · exact .inl ⟨by omega, _, hdec⟩
    · exact .inr ⟨by omega, i, hdec, BitVec.eq_of_toNat_eq (by omega)⟩
  · rw [if_neg hcls]
    obtain ⟨hfn, hdec⟩ | ⟨hfn, i, hdec, hword⟩ := decodeWide_cases (w.getLsbD 5) (w.toNat % 16)
    · exact .inl ⟨by omega, _, hdec⟩
    · exact .inr ⟨by omega, i, hdec, BitVec.eq_of_toNat_eq (by omega)⟩

/-- Settles O2: a word that decodes is the word of its command, and a command's word decodes to it. -/
theorem decodeAndEncodeAgreeOnEveryWord : Obligations.DecodeAndEncodeAgreeOnEveryWord := by
  intro w i
  constructor
  · intro h
    obtain ⟨-, e, he⟩ | ⟨-, j, hj, hw⟩ := decode_cases w
    · cases he.symm.trans h
    · cases hj.symm.trans h
      exact hw
  · rintro rfl
    exact decode_encode i

/-- Settles O1: each row's word is the encoding of its command, and a command's word decodes to it. -/
theorem opcodeTableDecodesAndEncodes : Obligations.OpcodeTableDecodesAndEncodes := by
  intro p hp
  have hword : encode p.2 = p.1 := by
    revert p
    decide
  exact ⟨hword ▸ decode_encode p.2, hword⟩

/-! ### What a command word does -/

/-- A word that decodes runs its command (30_encoding.md R55). -/
theorem execute_of_ok {w : CmdWord} {i : Instr} (h : decode w = .ok i) (s : State) :
    execute w s = exec i s := by
  simp only [execute, h]

/-- A word that does not decode raises code 6, whatever the operands are (30_encoding.md R49). -/
theorem execute_of_error {w : CmdWord} {e : Illegal} (h : decode w = .error e) (s : State) :
    execute w s = .next (s.errWith 6) := by
  simp only [execute, h, State.raise_eq, Err.code]

/-- The illegal words are those that are no command's (30_encoding.md R49). -/
theorem illegalWord_iff (w : CmdWord) : IllegalWord w ↔ ∀ i, w ≠ encode i := by
  obtain ⟨hill, e, he⟩ | ⟨hlegal, i, -, hw⟩ := decode_cases w
  · refine iff_of_true hill ?_
    rintro i rfl
    cases he.symm.trans (decode_encode i)
  · exact iff_of_false hlegal fun h => h i hw

theorem decode_of_illegalWord {w : CmdWord} (h : IllegalWord w) : ∃ e, decode w = .error e := by
  obtain ⟨-, he⟩ | ⟨hlegal, -⟩ := decode_cases w
  · exact he
  · exact absurd h hlegal

/-- Settles O3: an illegal word does not decode, and the write to `CMD` executes it. -/
theorem illegalWordsRaiseIllegalCommand : Obligations.IllegalWordsRaiseIllegalCommand := by
  refine ⟨illegalWord_iff, fun s w h => ?_⟩
  obtain ⟨e, he⟩ := decode_of_illegalWord h
  have hwrite : portWrite (regOffset .cmd) 8 w s = .ok (execute w s) :=
    portWrite_eq_ok.mpr ⟨.cmd, rfl, rfl, rfl⟩
  exact hwrite.trans (congrArg _ (execute_of_error he s))

/-- A step whose oldest event writes a word to `CMD` executes it on the state that has taken and answered
the access (30_encoding.md R55, 20_memory.md R41). -/
theorem step_of_commandWrite {s : State} {w : CmdWord} {rest : List Event}
    (h : s.pending = commandWrite w :: rest) :
    step s = execute w ((s.setPending rest).reply .done) :=
  (step_of_pending h).trans (perform_write_cmd (s.setPending rest) w)

/-- Settles O4: the step executes the word, which runs its command or raises code 6. -/
theorem stepRunsTheDecodedCommand : Obligations.StepRunsTheDecodedCommand := by
  intro s w rest hp
  refine ⟨fun i hi _ => ?_, fun e he => ?_⟩
  · exact (step_of_commandWrite hp).trans (execute_of_ok hi _)
  · exact (step_of_commandWrite hp).trans (execute_of_error he _)

/-! ### Script lines -/

theorem runHost_nil (s : State) : runHost [] s = .next s := rfl

theorem transcript_nil (s : State) : transcript [] s = [] := rfl

theorem runHost_lda (s : State) (n : Wide) :
    runHost (expandLine (.lda n)) s = .next { s with opa := n, answer := .done } := by
  simp only [expandLine, writeOf, runHost_plain (perform_write_opa _ _ _), runHost_nil, writeOpa_limbs]

theorem runHost_ldb (s : State) (n : Wide) :
    runHost (expandLine (.ldb n)) s = .next { s with opb := n, answer := .done } := by
  simp only [expandLine, writeOf, runHost_plain (perform_write_opb _ _ _), runHost_nil, writeOpb_limbs]

/-- An answered write to a limb of `OPA` leaves `RES` alone. -/
theorem State.writeOpa_done_res (s : State) (k : Fin 3) (v : Limb) :
    ((s.reply .done).writeOpa k v).res = s.res := rfl

/-- An answered write to a limb of `OPB` leaves `RES` alone. -/
theorem State.writeOpb_done_res (s : State) (k : Fin 3) (v : Limb) :
    ((s.reply .done).writeOpb k v).res = s.res := rfl

theorem runHost_mvra (s : State) :
    runHost (expandLine .mvra) s = .next { s with opa := s.res, answer := .done } := by
  rw [expandLine, runHost_copy_opa, runHost_copy_opa, runHost_copy_opa, runHost_nil]
  rw [State.writeOpa_done_res, State.writeOpa_done_res, State.writeOpa_done_res, writeOpa_limbs]

theorem runHost_mvrb (s : State) :
    runHost (expandLine .mvrb) s = .next { s with opb := s.res, answer := .done } := by
  rw [expandLine, runHost_copy_opb, runHost_copy_opb, runHost_copy_opb, runHost_nil]
  rw [State.writeOpb_done_res, State.writeOpb_done_res, State.writeOpb_done_res, writeOpb_limbs]

/-- A mnemonic's line is one write of its word to `CMD` (30_encoding.md R53). -/
theorem runHost_command (s : State) (i : Instr) :
    runHost (expandLine (.command i)) s = exec i { s with answer := .done } := by
  obtain ⟨o, ho⟩ := exec_finishes i (s.reply .done)
  have hwrite : perform (.write (regOffset .cmd) 8 (encode i)) s = exec i (s.reply .done) :=
    (perform_write_cmd s (encode i)).trans (execute_of_ok (decode_encode i) _)
  calc runHost (expandLine (.command i)) s
      = runHost [] ((s.reply .done).finish o) := runHost_plain (hwrite.trans ho) []
    _ = exec i (s.reply .done) := ho.symm

/-- A read by name shows the register's content, then the rest of the script is shown. -/
theorem transcript_readOf {s : State} {r : WindowReg} {v : Limb} (h : readReg s r = some v)
    (hs : List HostAccess) :
    transcript (readOf r :: hs) s = .data v :: transcript hs (s.reply (.data v)) := by
  simp only [readOf, transcript, resolveAccess, perform_read_reg h, State.reply_answer]

theorem transcript_rdst (s : State) :
    transcript (expandLine .rdst) s = [.data (s.code.setWidth 64)] :=
  transcript_readOf (r := .status) rfl []

/-- `rdres` shows the three limbs of `RES` in order (30_encoding.md R54). -/
theorem transcript_rdres (s : State) :
    transcript (expandLine .rdres) s =
      [.data (limb s.res 0), .data (limb s.res 1), .data (limb s.res 2)] := by
  simp only [expandLine, transcript_readOf (r := .res _) rfl, transcript_nil, State.reply_res]

/-- Settles O60, line by line. -/
theorem scriptLinesDoWhatTheyStandFor : Obligations.ScriptLinesDoWhatTheyStandFor := by
  intro s n i
  refine ⟨runHost_lda s n, runHost_ldb s n, runHost_mvra s, runHost_mvrb s, runHost_command s i,
    transcript_rdst s, ?_⟩
  rw [transcript_rdres, shownResult, limb_sum]

end Sys2Proof.Machine

/-! PROOFS. The Wide Integer Core (40_wide_integer.md): the squaring loop against the rule's while loop
(R64, 41_scaled_arith.md R95), its exactness with the checked multiplication (R62, R64), and the outcome
of the sixteen commands (R70 to R85). -/

namespace Sys2Proof.Machine

/-! ### The squaring loop, by the parity of the exponent -/

/-- An odd exponent: the accumulator is multiplied, and where bits remain the base is squared. -/
theorem powFrom_odd (mul : Nat → Nat → Except Err Nat) (acc base : Nat) {n : Nat} (odd : n % 2 = 1) :
    powFrom mul acc base n =
      (mul acc base >>= fun acc' =>
        if n / 2 = 0 then .ok acc' else mul base base >>= fun base' => powFrom mul acc' base' (n / 2)) := by
  rw [powFrom_round mul acc base n (by omega)]
  simp only [odd, if_true]

/-- The last bit: one multiplication and no squaring. -/
theorem powFrom_one (mul : Nat → Nat → Except Err Nat) (acc base : Nat) :
    powFrom mul acc base 1 = mul acc base := by
  rw [powFrom_odd mul acc base (Nat.mod_eq_of_lt Nat.one_lt_two)]
  cases mul acc base <;> rfl

/-- An odd exponent above 1: both multiplications, then the other bits. -/
theorem powFrom_odd_more (mul : Nat → Nat → Except Err Nat) (acc base : Nat) {n : Nat} (odd : n % 2 = 1)
    (more : 1 < n) :
    powFrom mul acc base n =
      (mul acc base >>= fun acc' => mul base base >>= fun base' => powFrom mul acc' base' (n / 2)) := by
  have hbits : n / 2 ≠ 0 := by omega
  simp only [powFrom_odd mul acc base odd, hbits, if_false]

/-- An even exponent above 0: the base is squared, then the other bits. -/
theorem powFrom_even (mul : Nat → Nat → Except Err Nat) (acc base : Nat) {n : Nat} (even : n % 2 = 0)
    (more : 0 < n) :
    powFrom mul acc base n = (mul base base >>= fun base' => powFrom mul acc base' (n / 2)) := by
  have hbit : n % 2 ≠ 1 := by omega
  have hbits : n / 2 ≠ 0 := by omega
  rw [powFrom_round mul acc base n (by omega)]
  simp only [hbit, hbits, if_false, ok_bind]

/-! ### The loop ends as the rule's while loop ends -/

/-- The rule's while loop ends with what the model's loop answers. -/
theorem squaringRun_powFrom (mul : Nat → Nat → Except Err Nat) (acc base n : Nat) :
    SquaringRun mul acc base n (powFrom mul acc base n) := by
  induction n using Nat.strong_induction_on generalizing acc base with
  | _ n ih =>
    obtain rfl | hpos := n.eq_zero_or_pos
    · exact powFrom_zero mul acc base ▸ .finished acc base
    have hhalf : n / 2 < n := by omega
    obtain even | odd := Nat.mod_two_eq_zero_or_one n
    · rw [powFrom_even mul acc base even hpos]
      cases hb : mul base base with
      | error e => exact .evenBaseFails acc base n e even hpos hb
      | ok base' => exact .evenGoesOn acc base n base' _ even hpos hb (ih _ hhalf acc base')
    · obtain rfl | more := Nat.eq_or_lt_of_le (Nat.one_le_iff_ne_zero.mpr hpos.ne')
      · rw [powFrom_one]
        cases h : mul acc base with
        | error e => exact .accFails acc base 1 e odd h
        | ok acc' => exact .lastBit acc base acc' h
      · rw [powFrom_odd_more mul acc base odd more]
        cases h : mul acc base with
        | error e => exact .accFails acc base n e odd h
        | ok acc' =>
          cases hb : mul base base with
          | error e => exact .oddBaseFails acc base n acc' e odd more h hb
          | ok base' => exact .oddGoesOn acc base n acc' base' _ odd more h hb (ih _ hhalf acc' base')

/-- The model's loop answers what the rule's while loop ends with, step by step of the while loop. -/
theorem powFrom_of_squaringRun {mul : Nat → Nat → Except Err Nat} {acc base n : Nat} {r : Except Err Nat}
    (run : SquaringRun mul acc base n r) : powFrom mul acc base n = r := by
  induction run with
  | finished acc base => exact powFrom_zero mul acc base
  | accFails acc base n e odd h => rw [powFrom_odd mul acc base odd, h, error_bind]
  | lastBit acc base acc' h => rw [powFrom_one, h]
  | oddBaseFails acc base n acc' e odd more h hb =>
    rw [powFrom_odd_more mul acc base odd more, h, ok_bind, hb, error_bind]
  | oddGoesOn acc base n acc' base' r odd more h hb _ ih =>
    rw [powFrom_odd_more mul acc base odd more, h, ok_bind, hb, ok_bind, ih]
  | evenBaseFails acc base n e even more hb => rw [powFrom_even mul acc base even more, hb, error_bind]
  | evenGoesOn acc base n base' r even more hb _ ih =>
    rw [powFrom_even mul acc base even more, hb, ok_bind, ih]

/-- Settles O45: the while loop has a run to the model's answer, and every run ends with it. -/
theorem squaringLoopFollowsTheRule : Obligations.SquaringLoopFollowsTheRule := by
  intro mul acc base n r
  constructor
  · rintro rfl
    exact squaringRun_powFrom mul acc base n
  · exact powFrom_of_squaringRun

/-! ### The overflow test of a width -/

/-- A number held to a width: `Overflow` when it does not fit (40_wide_integer.md R60, R62). -/
def heldTo (w : Width) (v : Nat) : Except Err Nat :=
  if 2 ^ widthBits w ≤ v then .error .overflow else .ok v

theorem checkedAdd_eq_heldTo (w : Width) (a b : Nat) : checkedAdd w a b = heldTo w (a + b) := rfl

theorem checkedMul_eq_heldTo (w : Width) (a b : Nat) : checkedMul w a b = heldTo w (a * b) := rfl

theorem heldTo_of_lt {w : Width} {v : Nat} (h : v < 2 ^ widthBits w) : heldTo w v = .ok v :=
  if_neg (Nat.not_le.mpr h)

theorem heldTo_of_ge {w : Width} {v : Nat} (h : 2 ^ widthBits w ≤ v) : heldTo w v = .error .overflow :=
  if_pos h

/-- A test on an intermediate number does not show in the outcome where that number overflows only if the
final one does. -/
theorem heldTo_bind {w : Width} {p q : Nat} {f : Nat → Except Err Nat}
    (hover : 2 ^ widthBits w ≤ p → 2 ^ widthBits w ≤ q)
    (hfit : p < 2 ^ widthBits w → f p = heldTo w q) : (heldTo w p >>= f) = heldTo w q := by
  obtain hlt | hge := Nat.lt_or_ge p (2 ^ widthBits w)
  · rw [heldTo_of_lt hlt, ok_bind, hfit hlt]
  · rw [heldTo_of_ge hge, error_bind, heldTo_of_ge (hover hge)]

/-! ### The checked power is the true power (40_wide_integer.md R64) -/

/-- A factor of a power `acc * base ^ n` that does not fit makes the power not fit: the power is zero only
where `base` is, and then the factor is zero too. -/
theorem overflow_of_factor {top p acc base n : Nat} (hacc : base ≠ 0 → acc ≠ 0) (htop : 0 < top)
    (hbase : base ∣ p) (hdvd : p ∣ acc * base ^ n) (hover : top ≤ p) : top ≤ acc * base ^ n := by
  have hp : p ≠ 0 := by omega
  have hb : base ≠ 0 := ne_zero_of_dvd_ne_zero hp hbase
  have hpow : 0 < acc * base ^ n :=
    Nat.mul_pos (Nat.pos_of_ne_zero (hacc hb)) (Nat.pow_pos (Nat.pos_of_ne_zero hb))
  exact hover.trans (Nat.le_of_dvd hpow hdvd)

/-- The squaring loop with the checked multiplication holds `acc * base ^ n` to the width: no product on
the way overflows unless this number does. -/
theorem powFrom_checkedMul (w : Width) {acc base : Nat} (n : Nat) (hacc : base ≠ 0 → acc ≠ 0)
    (hfits : acc < 2 ^ widthBits w) :
    powFrom (checkedMul w) acc base n = heldTo w (acc * base ^ n) := by
  have htop : 0 < 2 ^ widthBits w := Nat.two_pow_pos _
  induction n using Nat.strong_induction_on generalizing acc base with
  | _ n ih =>
    obtain rfl | hpos := n.eq_zero_or_pos
    · rw [powFrom_zero, Nat.pow_zero, Nat.mul_one, heldTo_of_lt hfits]
    have hhalf : n / 2 < n := by omega
    have hsquare : base * base ≠ 0 → base ≠ 0 := left_ne_zero_of_mul
    obtain even | odd := Nat.mod_two_eq_zero_or_one n
    · have hpow : base ^ n = (base * base) ^ (n / 2) := by
        rw [← Nat.pow_two, ← Nat.pow_mul]
        congr 1
        omega
      have hsq : base * base ∣ acc * base ^ n := by
        rw [hpow]
        exact Dvd.dvd.mul_left (dvd_pow_self _ (by omega)) acc
      rw [powFrom_even _ _ _ even hpos, checkedMul_eq_heldTo]
      refine heldTo_bind (overflow_of_factor hacc htop (Nat.dvd_mul_right _ _) hsq) fun _ => ?_
      rw [ih _ hhalf (hacc ∘ hsquare) hfits, ← hpow]
    · have hpow : acc * base ^ n = acc * base * (base * base) ^ (n / 2) := by
        rw [← Nat.pow_two, ← Nat.pow_mul, Nat.mul_assoc, ← Nat.pow_succ']
        congr 2
        omega
      have hfirst : acc * base ∣ acc * base ^ n := hpow ▸ Nat.dvd_mul_right _ _
      have hacc' : base * base ≠ 0 → acc * base ≠ 0 := fun h =>
        Nat.mul_ne_zero (hacc (hsquare h)) (hsquare h)
      rw [powFrom_odd _ _ _ odd, checkedMul_eq_heldTo]
      refine heldTo_bind (overflow_of_factor hacc htop (Nat.dvd_mul_left _ _) hfirst) fun hfit => ?_
      split
      · next hlast => rw [hpow, hlast, Nat.pow_zero, Nat.mul_one, heldTo_of_lt hfit]
      · next hmore =>
        have hsq : base * base ∣ acc * base ^ n := by
          rw [hpow]
          exact Dvd.dvd.mul_left (dvd_pow_self _ hmore) _
        rw [checkedMul_eq_heldTo]
        refine heldTo_bind (overflow_of_factor hacc htop (Nat.dvd_mul_right _ _) hsq) fun _ => ?_
        rw [ih _ hhalf hacc' hfit, ← hpow]

theorem checkedPow_eq_heldTo (w : Width) (a n : Nat) : checkedPow w a n = heldTo w (a ^ n) := by
  rw [checkedPow, powFrom_checkedMul w n (fun _ => Nat.one_ne_zero) (by cases w <;> decide), Nat.one_mul]

/-! ### The outcome of a command in the words of the statements -/

/-- A rule that tests and then answers, recorded. -/
theorem State.finish_check (s : State) (c : Prop) [Decidable c] (e : Err) (r : Nat) :
    s.finish (if c then .error e else .ok r) = if c then s.errWith e.code else s.okWith r := by
  split
  · exact s.finish_error e
  · exact s.finish_ok r

/-- A number held to a width, recorded: code 1 exactly when it does not fit (60_exceptions.md R135). -/
theorem State.finish_heldTo (s : State) (w : Width) (v : Nat) :
    s.finish (heldTo w v) = if v < 2 ^ widthBits w then s.okWith v else s.errWith 1 := by
  rw [heldTo, State.finish_check]
  simp only [← Nat.not_lt, ite_not, Err.code]

theorem State.finish_checkedPow (s : State) (w : Width) (a n : Nat) :
    s.finish (checkedPow w a n) = if a ^ n < 2 ^ widthBits w then s.okWith (a ^ n) else s.errWith 1 := by
  rw [checkedPow_eq_heldTo, State.finish_heldTo]

theorem State.finish_checkedSub (s : State) (a b : Nat) :
    s.finish (checkedSub a b) = if b ≤ a then s.okWith (a - b) else s.errWith 2 := by
  rw [checkedSub, State.finish_check]
  simp only [← Nat.not_le, ite_not, Err.code]

theorem State.finish_checkedDiv (s : State) (a b : Nat) :
    s.finish (checkedDiv a b) = if b = 0 then s.errWith 3 else s.okWith (a / b) :=
  s.finish_check (b = 0) .divisionByZero (a / b)

theorem State.finish_shl (s : State) (w : Width) (a n : Nat) :
    s.finish (.ok (shl w a n)) =
      if widthBits w ≤ n then s.okWith 0 else s.okWith (a * 2 ^ n % 2 ^ widthBits w) := by
  rw [State.finish_ok, shl, apply_ite s.okWith]

theorem State.finish_shr (s : State) (w : Width) (a n : Nat) :
    s.finish (.ok (shr w a n)) = if widthBits w ≤ n then s.okWith 0 else s.okWith (a / 2 ^ n) := by
  rw [State.finish_ok, shr, apply_ite s.okWith]

theorem State.finish_wideCmp (s : State) (a b : Nat) :
    s.finish (.ok (wideCmp a b)) =
      if a < b then s.okWith 0 else if a = b then s.okWith 1 else s.okWith 2 := by
  rw [State.finish_ok, wideCmp, apply_ite s.okWith, apply_ite s.okWith]

/-! ### The commands, by their width -/

/-- The two commands of one rule end as the rule on the two registers ends; at width 128 an operand of
`2^128` or more raises code 5 before it (60_exceptions.md R141). -/
theorem bothWidths_of_finish {f g : Nat → Nat → Except Err Nat} {s t u : State}
    (hf : s.finish (f s.opa.toNat s.opb.toNat) = t) (hg : s.finish (g s.opa.toNat s.opb.toNat) = u) :
    binaryCommand .w192 f s = .next t ∧
    binaryCommand .w128 g s = .next (
      if 2 ^ 128 ≤ s.opa.toNat ∨ 2 ^ 128 ≤ s.opb.toNat then s.errWith 5 else u) := by
  constructor
  · rw [binaryCommand_w192, hf]
  · rw [binaryCommand_w128, hg, State.raise_eq, Err.code]

/-- Settles O21: the squaring loop holds the true power to the width. -/
theorem widePowerCommandsAreExact : Obligations.WidePowerCommandsAreExact :=
  ⟨rfl, rfl, fun s => bothWidths_of_finish (s.finish_checkedPow .w192 _ _) (s.finish_checkedPow .w128 _ _)⟩

/-- Settles O17: the sum is held to the width. -/
theorem wideAdditionCommands : Obligations.WideAdditionCommands :=
  ⟨rfl, rfl, fun s => bothWidths_of_finish (s.finish_heldTo .w192 _) (s.finish_heldTo .w128 _)⟩

/-- Settles O18: the difference where there is one. -/
theorem wideSubtractionCommands : Obligations.WideSubtractionCommands :=
  ⟨rfl, rfl, fun s => bothWidths_of_finish (s.finish_checkedSub _ _) (s.finish_checkedSub _ _)⟩

/-- Settles O19: the exact product is held to the width. -/
theorem wideMultiplicationCommands : Obligations.WideMultiplicationCommands :=
  ⟨rfl, rfl, fun s => bothWidths_of_finish (s.finish_heldTo .w192 _) (s.finish_heldTo .w128 _)⟩

/-- Settles O20: the zero test, then the floor quotient. -/
theorem wideDivisionCommands : Obligations.WideDivisionCommands :=
  ⟨rfl, rfl, fun s => bothWidths_of_finish (s.finish_checkedDiv _ _) (s.finish_checkedDiv _ _)⟩

/-- Settles O22: the whole of `OPB` is the count of the left shift. -/
theorem wideShiftLeftCommands : Obligations.WideShiftLeftCommands :=
  ⟨rfl, rfl, fun s => bothWidths_of_finish (s.finish_shl .w192 _ _) (s.finish_shl .w128 _ _)⟩

/-- Settles O23: the whole of `OPB` is the count of the right shift. -/
theorem wideShiftRightCommands : Obligations.WideShiftRightCommands :=
  ⟨rfl, rfl, fun s => bothWidths_of_finish (s.finish_shr .w192 _ _) (s.finish_shr .w128 _ _)⟩

/-- Settles O24: the order of the two numbers. -/
theorem wideComparisonCommands : Obligations.WideComparisonCommands :=
  ⟨rfl, rfl, fun s => bothWidths_of_finish (s.finish_wideCmp _ _) (s.finish_wideCmp _ _)⟩

end Sys2Proof.Machine

/-! PROOFS. Scaled Value arithmetic (41_scaled_arith.md): each rule of R91 to R95 as its tests and the one
against the ceiling (R90), the laws of R97, the headroom of R98, and the outcome of the ten commands (R100
to R109). -/

namespace Sys2Proof.Machine

/-! ### The rules, each as its tests before the one against the ceiling (R90) -/

theorem inDomain_of_le {t : STy} {v : Nat} (h : v ≤ maxRaw t) : inDomain t v = .ok v :=
  if_neg (Nat.not_lt.mpr h)

/-- The ceiling test answers the number tested or nothing. -/
theorem eq_of_inDomain_eq_ok {t : STy} {v r : Nat} (h : inDomain t v = .ok r) : r = v := by
  unfold inDomain at h
  split at h
  · cases h
  · exact (Except.ok.inj h).symm

/-- The width test of `ScaledAdd` rejects nothing that the ceiling admits (R91). -/
theorem scaledAdd_eq_inDomain (t : STy) (a b : Nat) : scaledAdd t a b = inDomain t (a + b) := by
  cases t with
  | d => exact scaledAdd_d a b
  | r => exact scaledAdd_r a b

/-- `Underflow` before the ceiling (R92). -/
theorem scaledSub_eq (t : STy) (a b : Nat) :
    scaledSub t a b = if a < b then .error .underflow else inDomain t (a - b) := by
  cases t with
  | d => exact scaledSub_d a b
  | r => exact scaledSub_r a b

/-- The backing width on the exact product before the ceiling on the quotient (R93). -/
theorem scaledMul_eq (t : STy) (a b : Nat) :
    scaledMul t a b =
      if 2 ^ widthBits (backing t) ≤ a * b then .error .overflow else inDomain t (a * b / scale t) := by
  cases t with
  | d => exact scaledMul_d a b
  | r => exact scaledMul_r a b

/-- The zero test, the backing width, the ceiling (R94). -/
theorem scaledDiv_eq (t : STy) (a b : Nat) :
    scaledDiv t a b =
      if b = 0 then .error .divisionByZero
      else if 2 ^ widthBits (backing t) ≤ a * scale t then .error .overflow
      else inDomain t (a * scale t / b) := by
  cases t with
  | d => exact scaledDiv_d a b
  | r => exact scaledDiv_r a b

/-- The multiplication of the rule, its two `Overflow` tests written as one (R93). -/
theorem scaledMul_eq_mulByRule (t : STy) :
    scaledMul t = mulByRule (widthBits (backing t)) (scale t) (maxRaw t) := by
  funext a b
  rw [scaledMul_eq, inDomain, mulByRule, ite_or]

/-! ### Headroom (R98) -/

theorem scale_pos (t : STy) : 0 < scale t := by
  cases t <;> decide

/-- A multiply by the scale leaves room for the ceiling and the remainder of a division by the scale. -/
theorem ceiling_headroom (t : STy) : (maxRaw t + 1) * scale t ≤ 2 ^ widthBits (backing t) := by
  cases t <;> decide

/-- The backing-width test rejects no product whose scaled result is within the ceiling. -/
theorem scaledMul_of_le {t : STy} {a b : Nat} (h : a * b / scale t ≤ maxRaw t) :
    scaledMul t a b = .ok (a * b / scale t) := by
  have hfits : a * b < 2 ^ widthBits (backing t) :=
    calc a * b < (maxRaw t + 1) * scale t := (Nat.div_lt_iff_lt_mul (scale_pos t)).mp (Nat.lt_succ_of_le h)
      _ ≤ 2 ^ widthBits (backing t) := ceiling_headroom t
  rw [scaledMul_eq, if_neg (Nat.not_le.mpr hfits), inDomain_of_le h]

/-! ### The laws of R97 -/

theorem checkedAdd_comm (w : Width) (a b : Nat) : checkedAdd w a b = checkedAdd w b a := by
  rw [checkedAdd_eq_heldTo, checkedAdd_eq_heldTo, Nat.add_comm]

theorem checkedMul_comm (w : Width) (a b : Nat) : checkedMul w a b = checkedMul w b a := by
  rw [checkedMul_eq_heldTo, checkedMul_eq_heldTo, Nat.mul_comm]

theorem scaledAdd_comm (t : STy) (a b : Nat) : scaledAdd t a b = scaledAdd t b a := by
  rw [scaledAdd_eq_inDomain, scaledAdd_eq_inDomain, Nat.add_comm]

theorem scaledMul_comm (t : STy) (a b : Nat) : scaledMul t a b = scaledMul t b a := by
  rw [scaledMul_eq, scaledMul_eq, Nat.mul_comm]

theorem scaledAdd_zero {t : STy} {a : Nat} (h : a ≤ maxRaw t) : scaledAdd t a 0 = .ok a := by
  rw [scaledAdd_eq_inDomain, Nat.add_zero, inDomain_of_le h]

theorem scaledMul_scale {t : STy} {a : Nat} (h : a ≤ maxRaw t) : scaledMul t a (scale t) = .ok a := by
  have hquot : a * scale t / scale t = a := Nat.mul_div_cancel a (scale_pos t)
  rw [scaledMul_of_le (hquot.trans_le h), hquot]

/-- Dividing by one and multiplying by one make the same tests on the same numbers (R93, R94). -/
theorem scaledDiv_scale {t : STy} {a : Nat} (h : a ≤ maxRaw t) : scaledDiv t a (scale t) = .ok a := by
  rw [← scaledMul_scale h, scaledDiv_eq, if_neg (scale_pos t).ne', scaledMul_eq]

/-- Settles O48: each grouping that succeeds gives the sum of the three numbers. -/
theorem scaledAdditionAssociates : Obligations.ScaledAdditionAssociates := by
  intro t a b c ab bc left right hab hleft hbc hright
  rw [scaledAdd_eq_inDomain] at hab hleft hbc hright
  rw [eq_of_inDomain_eq_ok hleft, eq_of_inDomain_eq_ok hab, eq_of_inDomain_eq_ok hright,
    eq_of_inDomain_eq_ok hbc, Nat.add_assoc]

/-! ### The commands with their operands exchanged -/

/-- A symmetric rule does not see which operand was read first: each operand's check has the same one error
(60_exceptions.md R141). -/
theorem operands_bind_comm {w : Width} {f : Nat → Nat → Except Err Nat} (hf : ∀ a b, f a b = f b a)
    (x y : Wide) :
    (operand w x >>= fun a => operand w y >>= fun b => f a b) =
      (operand w y >>= fun a => operand w x >>= fun b => f a b) := by
  obtain hx | hx := operand_cases w x <;> obtain hy | hy := operand_cases w y <;> rw [hx, hy]
  · exact hf _ _
  · rfl
  · rfl

/-- A command of a symmetric rule records the same `RES` and `STATUS.CODE` with its operands exchanged. -/
theorem binaryCommand_swap {w : Width} {f : Nat → Nat → Except Err Nat} (hf : ∀ a b, f a b = f b a)
    (s : State) :
    ∃ t u : State, binaryCommand w f s = .next t ∧
      binaryCommand w f { s with opa := s.opb, opb := s.opa } = .next u ∧
      t.res = u.res ∧ t.code = u.code := by
  refine ⟨_, _, rfl, rfl, ?_⟩
  rw [← operands_bind_comm hf s.opa s.opb]
  exact ⟨State.finish_res_congr _ _ _, State.finish_code_congr _ _ _⟩

/-- Settles O46: each of the eight commands has a symmetric rule. -/
theorem additionAndMultiplicationCommute : Obligations.AdditionAndMultiplicationCommute := by
  intro i s hi
  simp only [List.mem_cons, List.not_mem_nil, or_false] at hi
  obtain rfl | rfl | rfl | rfl | rfl | rfl | rfl | rfl := hi
  · exact binaryCommand_swap (checkedAdd_comm .w192) s
  · exact binaryCommand_swap (checkedAdd_comm .w128) s
  · exact binaryCommand_swap (checkedMul_comm .w192) s
  · exact binaryCommand_swap (checkedMul_comm .w128) s
  · exact binaryCommand_swap (scaledAdd_comm .d) s
  · exact binaryCommand_swap (scaledAdd_comm .r) s
  · exact binaryCommand_swap (scaledMul_comm .d) s
  · exact binaryCommand_swap (scaledMul_comm .r) s

/-! ### The commands that succeed on values in the domain -/

/-- A two-operand command of width 192 whose rule succeeds. -/
theorem binaryCommand_w192_ok {f : Nat → Nat → Except Err Nat} {s : State} {r : Nat}
    (hf : f s.opa.toNat s.opb.toNat = .ok r) : binaryCommand .w192 f s = .next (s.okWith r) := by
  rw [binaryCommand_w192, hf, State.finish_ok]

/-- A two-operand command of width 128 whose operands have the width and whose rule succeeds. -/
theorem binaryCommand_w128_ok {f : Nat → Nat → Except Err Nat} {s : State} {r : Nat}
    (ha : s.opa.toNat < 2 ^ 128) (hb : s.opb.toNat < 2 ^ 128) (hf : f s.opa.toNat s.opb.toNat = .ok r) :
    binaryCommand .w128 f s = .next (s.okWith r) := by
  rw [binaryCommand_w128, if_neg (not_or.mpr ⟨Nat.not_le.mpr ha, Nat.not_le.mpr hb⟩), hf, State.finish_ok]

/-- Success with the number a register holds is success with the register. -/
theorem State.okWith_toNat (s : State) (v : Wide) : s.okWith v.toNat = { s with res := v, code := 0 } := by
  rw [State.okWith, BitVec.ofNat_toNat, BitVec.setWidth_eq]

/-- Settles O52, by the headroom of the backing width. -/
theorem decimalMultiplyLosesNothingByWidth : Obligations.DecimalMultiplyLosesNothingByWidth :=
  fun _ h => binaryCommand_w192_ok (scaledMul_of_le (t := .d) h)

/-- Settles O47: zero and the scale are neutral for the three rules within the ceiling, and a Rate within its
ceiling has the width 128. -/
theorem scaledIdentities : Obligations.ScaledIdentities := by
  intro s
  rw [← State.okWith_toNat]
  have hadd {t : STy} (ha : s.opa.toNat ≤ maxRaw t) (hb : s.opb = 0) :
      scaledAdd t s.opa.toNat s.opb.toNat = .ok s.opa.toNat := by
    rw [hb]; exact scaledAdd_zero ha
  have hmul {t : STy} (ha : s.opa.toNat ≤ maxRaw t) (hb : s.opb.toNat = scale t) :
      scaledMul t s.opa.toNat s.opb.toNat = .ok s.opa.toNat := hb ▸ scaledMul_scale ha
  have hdiv {t : STy} (ha : s.opa.toNat ≤ maxRaw t) (hb : s.opb.toNat = scale t) :
      scaledDiv t s.opa.toNat s.opb.toNat = .ok s.opa.toNat := hb ▸ scaledDiv_scale ha
  constructor
  · intro ha
    exact ⟨fun hb => binaryCommand_w192_ok (hadd (t := .d) ha hb),
      fun hb => ⟨binaryCommand_w192_ok (hmul (t := .d) ha hb),
        binaryCommand_w192_ok (hdiv (t := .d) ha hb)⟩⟩
  · intro ha
    have hwidth : s.opa.toNat < 2 ^ 128 := by omega
    refine ⟨fun hb => binaryCommand_w128_ok hwidth (by simp [hb]) (hadd (t := .r) ha hb), fun hb => ?_⟩
    have hone : s.opb.toNat < 2 ^ 128 := by omega
    exact ⟨binaryCommand_w128_ok hwidth hone (hmul (t := .r) ha hb),
      binaryCommand_w128_ok hwidth hone (hdiv (t := .r) ha hb)⟩

/-! ### The outcome of a command in the words of the statements -/

/-- A rule that tests and then goes on, recorded. -/
theorem State.finish_test (s : State) (c : Prop) [Decidable c] (e : Err) (o : Except Err Nat) :
    s.finish (if c then .error e else o) = if c then s.errWith e.code else s.finish o := by
  rw [apply_ite s.finish, State.finish_error]

/-- The ceiling test, recorded: code 1 exactly above the ceiling (R90, 60_exceptions.md R135). -/
theorem State.finish_inDomain (s : State) (t : STy) (v : Nat) :
    s.finish (inDomain t v) = if v ≤ maxRaw t then s.okWith v else s.errWith 1 := by
  rw [inDomain, State.finish_check]
  simp only [← Nat.not_le, ite_not, Err.code]

theorem State.finish_scaledAdd (s : State) (t : STy) (a b : Nat) :
    s.finish (scaledAdd t a b) = if a + b ≤ maxRaw t then s.okWith (a + b) else s.errWith 1 := by
  rw [scaledAdd_eq_inDomain, State.finish_inDomain]

theorem State.finish_scaledSub (s : State) (t : STy) (a b : Nat) :
    s.finish (scaledSub t a b) =
      if a < b then s.errWith 2
      else if a - b ≤ maxRaw t then s.okWith (a - b) else s.errWith 1 := by
  rw [scaledSub_eq, State.finish_test, State.finish_inDomain, Err.code]

theorem State.finish_scaledMul (s : State) (t : STy) (a b : Nat) :
    s.finish (scaledMul t a b) =
      if 2 ^ widthBits (backing t) ≤ a * b then s.errWith 1
      else if a * b / scale t ≤ maxRaw t then s.okWith (a * b / scale t) else s.errWith 1 := by
  rw [scaledMul_eq, State.finish_test, State.finish_inDomain, Err.code]

theorem State.finish_scaledDiv (s : State) (t : STy) (a b : Nat) :
    s.finish (scaledDiv t a b) =
      if b = 0 then s.errWith 3
      else if 2 ^ widthBits (backing t) ≤ a * scale t then s.errWith 1
      else if a * scale t / b ≤ maxRaw t then s.okWith (a * scale t / b) else s.errWith 1 := by
  rw [scaledDiv_eq, State.finish_test, State.finish_test, State.finish_inDomain, Err.code, Err.code]

/-! ### The commands, by their type -/

/-- Settles O25: the sum within the ceiling. -/
theorem scaledAdditionCommands : Obligations.ScaledAdditionCommands :=
  ⟨rfl, rfl, fun s => bothWidths_of_finish (s.finish_scaledAdd .d _ _) (s.finish_scaledAdd .r _ _)⟩

/-- Settles O26: the difference where there is one, within the ceiling. -/
theorem scaledSubtractionCommands : Obligations.ScaledSubtractionCommands :=
  ⟨rfl, rfl, fun s => bothWidths_of_finish (s.finish_scaledSub .d _ _) (s.finish_scaledSub .r _ _)⟩

/-- Settles O27: the exact product within the width, its quotient by the scale within the ceiling. -/
theorem scaledMultiplicationCommands : Obligations.ScaledMultiplicationCommands :=
  ⟨rfl, rfl, fun s => bothWidths_of_finish (s.finish_scaledMul .d _ _) (s.finish_scaledMul .r _ _)⟩

/-- Settles O28: the zero test, the scaled dividend within the width, the quotient within the ceiling. -/
theorem scaledDivisionCommands : Obligations.ScaledDivisionCommands :=
  ⟨rfl, rfl, fun s => bothWidths_of_finish (s.finish_scaledDiv .d _ _) (s.finish_scaledDiv .r _ _)⟩

/-! ### The squaring loop with the scaled multiplication (R95) -/

/-- A rule that raises no error but `Overflow`. -/
def OverflowOnly (o : Except Err Nat) : Prop := ∀ e, o = .error e → e = .overflow

theorem overflowOnly_ok (v : Nat) : OverflowOnly (.ok v) := fun _ h => nomatch h

theorem scaledMul_overflowOnly (t : STy) (a b : Nat) : OverflowOnly (scaledMul t a b) := by
  rw [scaledMul_eq_mulByRule, mulByRule]
  split
  · exact fun _ h => (Except.error.inj h).symm
  · exact overflowOnly_ok _

/-- The loop raises no error that its multiplication does not raise. -/
theorem squaringRun_overflowOnly {mul : Nat → Nat → Except Err Nat} (hmul : ∀ a b, OverflowOnly (mul a b))
    {acc base n : Nat} {r : Except Err Nat} (run : SquaringRun mul acc base n r) : OverflowOnly r := by
  induction run with
  | finished acc | lastBit _ _ acc => exact overflowOnly_ok acc
  | accFails acc base _ _ _ h => exact h ▸ hmul acc base
  | oddBaseFails _ base _ _ _ _ _ _ hb | evenBaseFails _ base _ _ _ _ hb => exact hb ▸ hmul base base
  | oddGoesOn _ _ _ _ _ _ _ _ _ _ _ ih | evenGoesOn _ _ _ _ _ _ _ _ _ ih => exact ih

/-- The power's rule, recorded: what the while loop of R95 ends with, code 1 for its error. -/
theorem State.finish_scaledPow (s : State) (t : STy) (a n : Nat) :
    ∃ r, SquaringRun (mulByRule (widthBits (backing t)) (scale t) (maxRaw t)) (scale t) a n r ∧
      s.finish (scaledPow t a n) = (match r with | .ok v => s.okWith v | .error _ => s.errWith 1) := by
  have run := squaringRun_powFrom (scaledMul t) (scale t) a n
  refine ⟨scaledPow t a n, scaledMul_eq_mulByRule t ▸ run, ?_⟩
  cases h : scaledPow t a n with
  | ok v => exact s.finish_ok v
  | error e =>
    obtain rfl := squaringRun_overflowOnly (scaledMul_overflowOnly t) run e h
    exact s.finish_error .overflow

/-- An exponent of zero gives one, whatever the base (R95). -/
theorem scaledPow_zero (t : STy) (a : Nat) : scaledPow t a 0 = .ok (scale t) :=
  powFrom_zero (scaledMul t) (scale t) a

/-- Settles O29: the loop of the model ends as the while loop of the rule, which has an end. -/
theorem scaledPowerCommandsFollowTheLoop : Obligations.ScaledPowerCommandsFollowTheLoop := by
  refine ⟨rfl, rfl, fun s => ?_⟩
  obtain ⟨rd, hrund, hd⟩ := s.finish_scaledPow .d s.opa.toNat s.opb.toNat
  obtain ⟨rr, hrunr, hr⟩ := s.finish_scaledPow .r s.opa.toNat s.opb.toNat
  obtain ⟨hexecd, hexecr⟩ := bothWidths_of_finish hd hr
  have hzero (t : STy) (hb : s.opb = 0) : scaledPow t s.opa.toNat s.opb.toNat = .ok (scale t) := by
    rw [hb]; exact scaledPow_zero t _
  refine ⟨⟨rd, hrund, hexecd⟩, ⟨rr, hrunr, hexecr⟩, fun hb => ?_, fun hb ha => ?_⟩
  · exact binaryCommand_w192_ok (hzero .d hb)
  · exact binaryCommand_w128_ok ha (by simp [hb]) (hzero .r hb)

end Sys2Proof.Machine

/-! PROOFS. Scaled Value conversions (42_scaled_convert.md): the outcome of the eight commands (R115 to R122)
and the laws of R123, which read each command on the result of another. -/

namespace Sys2Proof.Machine

/-! ### The outcome of a rule in the words of the statements -/

/-- The width test of `RateToDecimal` rejects nothing that the ceiling admits (R113). -/
theorem rateToDecimal_eq_inDomain (a : Nat) : rateToDecimal a = inDomain .d (a * bridge) := by
  rw [rateToDecimal, checkedMul_w192]
  split
  · next hover => rw [error_bind, inDomain_d, if_pos (by omega)]
  · rw [ok_bind]

theorem State.finish_fromInteger (s : State) (t : STy) (n : Nat) :
    s.finish (fromInteger t n) = if n ≤ intMax t then s.okWith (n * scale t) else s.errWith 1 := by
  rw [fromInteger, State.finish_check]
  simp only [← Nat.not_le, ite_not, Err.code]

theorem State.finish_toCeil (s : State) (t : STy) (a : Nat) :
    s.finish (.ok (toCeil t a)) =
      if a % scale t = 0 then s.okWith (a / scale t) else s.okWith (a / scale t + 1) := by
  rw [State.finish_ok, toCeil, apply_ite s.okWith]

theorem State.finish_decimalToRate (s : State) (a : Nat) :
    s.finish (decimalToRate a) = if a ≤ d2rLimit then s.okWith (a / bridge) else s.errWith 4 := by
  rw [decimalToRate, State.finish_check]
  simp only [← Nat.not_le, ite_not, Err.code]

theorem State.finish_rateToDecimal (s : State) (a : Nat) :
    s.finish (rateToDecimal a) = if a * bridge ≤ maxRaw .d then s.okWith (a * bridge) else s.errWith 1 := by
  rw [rateToDecimal_eq_inDomain, State.finish_inDomain]

/-! ### The commands, by the width of their source -/

/-- A command on a Decimal and one on a Rate end as their rules on `OPA` end; a Rate of `2^128` or more raises
code 5 before its rule (60_exceptions.md R141). -/
theorem bothSources_of_finish {f g : Nat → Except Err Nat} {s t u : State}
    (hf : s.finish (f s.opa.toNat) = t) (hg : s.finish (g s.opa.toNat) = u) :
    unaryCommand .w192 f s = .next t ∧
    unaryCommand .w128 g s = .next (if 2 ^ 128 ≤ s.opa.toNat then s.errWith 5 else u) := by
  constructor
  · rw [unaryCommand_w192, hf]
  · rw [unaryCommand_w128, hg, State.raise_eq, Err.code]

/-- Settles O30: the integer within the domain, times the scale. -/
theorem fromIntegerCommands : Obligations.FromIntegerCommands :=
  ⟨rfl, rfl, fun s => bothSources_of_finish (s.finish_fromInteger .d _) (s.finish_fromInteger .r _)⟩

/-- Settles O31: the floor rule raises no error of its own. -/
theorem toIntegerFloorCommands : Obligations.ToIntegerFloorCommands :=
  ⟨rfl, rfl, fun s => bothSources_of_finish (s.finish_ok (toFloor .d _)) (s.finish_ok (toFloor .r _))⟩

/-- Settles O32: the ceiling rule, by the remainder. -/
theorem toIntegerCeilingCommands : Obligations.ToIntegerCeilingCommands :=
  ⟨rfl, rfl, fun s => bothSources_of_finish (s.finish_toCeil .d _) (s.finish_toCeil .r _)⟩

/-- Settles O33: the inclusive bound one way, the ceiling the other. -/
theorem bridgeCommands : Obligations.BridgeCommands :=
  ⟨rfl, rfl, fun s => bothSources_of_finish (s.finish_decimalToRate _) (s.finish_rateToDecimal _)⟩

/-! ### Commands that succeed, and a command on the result of another -/

theorem two_pow_widthBits_le (w : Width) : 2 ^ widthBits w ≤ 2 ^ 192 := by
  cases w <;> decide

/-- `RES` holds the whole of a number of at most 192 bits. -/
theorem State.okWith_res_toNat (s : State) {r : Nat} (h : r < 2 ^ 192) : (s.okWith r).res.toNat = r :=
  (BitVec.toNat_ofNat r 192).trans (Nat.mod_eq_of_lt h)

/-- A one-operand command whose operand has the width and whose rule succeeds. -/
theorem unaryCommand_ok {w : Width} {f : Nat → Except Err Nat} {s : State} {r : Nat}
    (hwidth : s.opa.toNat < 2 ^ widthBits w) (hf : f s.opa.toNat = .ok r) :
    unaryCommand w f s = .next (s.okWith r) := by
  cases w with
  | w192 => rw [unaryCommand_w192, hf, State.finish_ok]
  | w128 =>
    have hfits : ¬ 2 ^ 128 ≤ s.opa.toNat := Nat.not_le.mpr hwidth
    rw [unaryCommand_w128, if_neg hfits, hf, State.finish_ok]

/-- The state with `RES` moved to `OPA`, for a command on the result of the one before it. -/
def State.resultToOpa (s : State) : State := { s with opa := s.res }

/-- The move is what the script line `mvra` does (30_encoding.md R54). -/
theorem runHost_mvra_eq_resultToOpa (s : State) :
    runHost (expandLine .mvra) s = .next (s.resultToOpa.reply .done) := runHost_mvra s

/-- A one-operand command that succeeds on the result of a command before it. -/
theorem unaryCommand_on_result {w : Width} {f : Nat → Except Err Nat} (s : State) {r v : Nat}
    (hwidth : r < 2 ^ widthBits w) (hf : f r = .ok v) :
    unaryCommand w f (s.okWith r).resultToOpa = .next ((s.okWith r).resultToOpa.okWith v) := by
  have hopa : (s.okWith r).resultToOpa.opa.toNat = r :=
    s.okWith_res_toNat (hwidth.trans_le (two_pow_widthBits_le w))
  exact unaryCommand_ok (hopa.symm ▸ hwidth) (hopa.symm ▸ hf)

/-- A one-operand command whose rule gives back, from the result of a command before it, the number that
`OPA` held for that one: `RES` holds that `OPA`. -/
theorem unaryCommand_gives_back {w : Width} {f : Nat → Except Err Nat} {s : State} {r : Nat}
    (hwidth : r < 2 ^ widthBits w) (hf : f r = .ok s.opa.toNat) :
    unaryCommand w f (s.okWith r).resultToOpa =
      .next { (s.okWith r).resultToOpa with res := s.opa } := by
  rw [unaryCommand_on_result s hwidth hf, State.okWith_toNat]
  rfl

/-! ### Integers and back (R123 (1)) -/

theorem fromInteger_of_le {t : STy} {n : Nat} (h : n ≤ intMax t) : fromInteger t n = .ok (n * scale t) :=
  if_neg (Nat.not_lt.mpr h)

/-- A logical value without a fraction is its own floor. -/
theorem toFloor_of_mul_scale (t : STy) (n : Nat) : toFloor t (n * scale t) = n :=
  Nat.mul_div_cancel n (scale_pos t)

/-- A logical value without a fraction is its own ceiling. -/
theorem toCeil_of_mul_scale (t : STy) (n : Nat) : toCeil t (n * scale t) = n := by
  rw [toCeil, if_pos (Nat.mul_mod_left n (scale t)), Nat.mul_div_cancel n (scale_pos t)]

/-- Every number within the ceiling of a type has the type's backing width. -/
theorem lt_width_of_le_maxRaw {t : STy} {a : Nat} (h : a ≤ maxRaw t) : a < 2 ^ widthBits (backing t) :=
  h.trans_lt (by cases t <;> decide)

theorem integer_round_trip (t : STy) {s : State} (h : s.opa.toNat ≤ intMax t) :
    ∃ u : State, unaryCommand (backing t) (fromInteger t) s = .next u ∧ u.code = 0 ∧
      unaryCommand (backing t) (fun a => .ok (toFloor t a)) u.resultToOpa =
        .next { u.resultToOpa with res := s.opa } ∧
      unaryCommand (backing t) (fun a => .ok (toCeil t a)) u.resultToOpa =
        .next { u.resultToOpa with res := s.opa } := by
  have hscaled : s.opa.toNat * scale t < 2 ^ widthBits (backing t) :=
    lt_width_of_le_maxRaw (Nat.mul_le_mul_right (scale t) h)
  have hwidth : s.opa.toNat < 2 ^ widthBits (backing t) :=
    (Nat.le_mul_of_pos_right _ (scale_pos t)).trans_lt hscaled
  exact ⟨_, unaryCommand_ok hwidth (fromInteger_of_le h), rfl,
    unaryCommand_gives_back hscaled (congrArg Except.ok (toFloor_of_mul_scale t _)),
    unaryCommand_gives_back hscaled (congrArg Except.ok (toCeil_of_mul_scale t _))⟩

/-- Settles O49: the product of an integer and the scale has no fraction, so floor and ceiling undo it. -/
theorem integerRoundTrip : Obligations.IntegerRoundTrip :=
  fun _ => ⟨integer_round_trip .d, integer_round_trip .r⟩

/-! ### Rate to Decimal and back (R123 (3)) -/

theorem rateToDecimal_of_le {a : Nat} (h : a * bridge ≤ maxRaw .d) : rateToDecimal a = .ok (a * bridge) :=
  (rateToDecimal_eq_inDomain a).trans (inDomain_of_le h)

theorem decimalToRate_of_le {a : Nat} (h : a ≤ d2rLimit) : decimalToRate a = .ok (a / bridge) :=
  if_neg (Nat.not_lt.mpr h)

theorem bridge_pos : 0 < bridge := by decide

/-- The bridge takes the Rate ceiling to the bound of `scvt.d2r` (90_conflicts.md C2). -/
theorem maxRaw_r_mul_bridge : maxRaw .r * bridge = d2rLimit := rfl

/-- The bound of `scvt.d2r` is within the Decimal ceiling. -/
theorem d2rLimit_le_maxRaw_d : d2rLimit ≤ maxRaw .d := by decide

/-- Every Rate survives the way to Decimal and back: its Decimal is within the bound of `scvt.d2r`, and the
division undoes the multiplication. -/
theorem rate_round_trip {s : State} (h : s.opa.toNat ≤ maxRaw .r) :
    ∃ t : State, unaryCommand .w128 rateToDecimal s = .next t ∧ t.code = 0 ∧
      unaryCommand .w192 decimalToRate t.resultToOpa = .next { t.resultToOpa with res := s.opa } := by
  have hbound : s.opa.toNat * bridge ≤ d2rLimit :=
    maxRaw_r_mul_bridge ▸ Nat.mul_le_mul_right bridge h
  have hceiling : s.opa.toNat * bridge ≤ maxRaw .d := hbound.trans d2rLimit_le_maxRaw_d
  have hback : decimalToRate (s.opa.toNat * bridge) = .ok s.opa.toNat := by
    rw [decimalToRate_of_le hbound, Nat.mul_div_cancel _ bridge_pos]
  exact ⟨_, unaryCommand_ok (lt_width_of_le_maxRaw (t := .r) h) (rateToDecimal_of_le hceiling), rfl,
    unaryCommand_gives_back (lt_width_of_le_maxRaw (t := .d) hceiling) hback⟩

/-- A Decimal convertible to Rate comes back without the part that the division by the bridge drops. -/
theorem decimal_round_trip {s : State} (h : s.opa.toNat ≤ d2rLimit) :
    ∃ t : State, unaryCommand .w192 decimalToRate s = .next t ∧ t.code = 0 ∧
      unaryCommand .w128 rateToDecimal t.resultToOpa =
        .next (t.resultToOpa.okWith (s.opa.toNat - s.opa.toNat % bridge)) := by
  have hrate : s.opa.toNat / bridge ≤ maxRaw .r := Nat.div_le_of_le_mul (by
    rwa [Nat.mul_comm, maxRaw_r_mul_bridge])
  have hceiling : s.opa.toNat / bridge * bridge ≤ maxRaw .d :=
    (Nat.div_mul_le_self _ _).trans (h.trans d2rLimit_le_maxRaw_d)
  have hback : rateToDecimal (s.opa.toNat / bridge) = .ok (s.opa.toNat - s.opa.toNat % bridge) := by
    rw [rateToDecimal_of_le hceiling, Nat.div_mul_self_eq_mod_sub_self]
  exact ⟨_, unaryCommand_ok s.opa.isLt (decimalToRate_of_le h), rfl,
    unaryCommand_on_result s (lt_width_of_le_maxRaw (t := .r) hrate) hback⟩

/-- Settles O50: the bridge multiplies exactly, and its division drops the remainder. -/
theorem rateDecimalRoundTrip : Obligations.RateDecimalRoundTrip :=
  fun _ => ⟨rate_round_trip, decimal_round_trip⟩

/-! ### Floor and ceiling bracket the logical value (R123 (2)) -/

theorem toFloor_mul_scale_le (t : STy) (a : Nat) : toFloor t a * scale t ≤ a := Nat.div_mul_le_self a _

theorem toCeil_of_exact {t : STy} {a : Nat} (h : a % scale t = 0) : toCeil t a = toFloor t a := if_pos h

theorem toCeil_of_remainder {t : STy} {a : Nat} (h : a % scale t ≠ 0) : toCeil t a = toFloor t a + 1 :=
  if_neg h

theorem le_toCeil_mul_scale (t : STy) (a : Nat) : a ≤ toCeil t a * scale t := by
  by_cases h : a % scale t = 0
  · rw [toCeil_of_exact h]
    exact (Nat.div_mul_cancel (Nat.dvd_of_mod_eq_zero h)).ge
  · rw [toCeil_of_remainder h]
    exact (Nat.lt_div_mul_add (scale_pos t)).le.trans_eq (Nat.succ_mul _ _).symm

theorem floor_ceiling_bracket (ty : STy) {s : State} (h : s.opa.toNat < 2 ^ widthBits (backing ty)) :
    ∃ t u : State, unaryCommand (backing ty) (fun a => .ok (toFloor ty a)) s = .next t ∧
      unaryCommand (backing ty) (fun a => .ok (toCeil ty a)) s = .next u ∧
      t.code = 0 ∧ u.code = 0 ∧
      t.res.toNat * scale ty ≤ s.opa.toNat ∧ s.opa.toNat ≤ u.res.toNat * scale ty ∧
      (s.opa.toNat % scale ty = 0 → u.res.toNat = t.res.toNat) ∧
      (s.opa.toNat % scale ty ≠ 0 → u.res.toNat = t.res.toNat + 1) := by
  have hfloor := s.okWith_res_toNat ((toFloor_le ty s.opa.toNat).trans_lt s.opa.isLt)
  have hceil := s.okWith_res_toNat ((toCeil_le ty s.opa.toNat).trans_lt s.opa.isLt)
  refine ⟨_, _, unaryCommand_ok h rfl, unaryCommand_ok h rfl, rfl, rfl, ?_⟩
  rw [hfloor, hceil]
  exact ⟨toFloor_mul_scale_le ty _, le_toCeil_mul_scale ty _, toCeil_of_exact, toCeil_of_remainder⟩

/-- Settles O51: every register has the width of a Decimal. -/
theorem floorAndCeilingBracket : Obligations.FloorAndCeilingBracket :=
  fun s => ⟨floor_ceiling_bracket .d s.opa.isLt, floor_ceiling_bracket .r⟩

end Sys2Proof.Machine

/-! PROOFS. The limb-level reference datapath (44_limb_algorithms.md): what each block of R126 to R133 does to
the numbers its limb vectors stand for, and with that the helpers of 40_wide_integer.md and
41_scaled_arith.md that the block is the datapath of. -/

namespace Sys2Proof.Machine

/-! ### Limb vectors as numbers (00_scope.md R7) -/

@[simp] theorem limbsValue_nil : limbsValue [] = 0 := rfl

@[simp] theorem limbsValue_cons (x : Limb) (xs : List Limb) :
    limbsValue (x :: xs) = x.toNat + 2 ^ 64 * limbsValue xs := rfl

/-- The radix of one limb more. -/
theorem two_pow_limbs_succ (n : Nat) : 2 ^ (64 * (n + 1)) = 2 ^ 64 * 2 ^ (64 * n) := by
  rw [Nat.mul_succ, Nat.pow_add, Nat.mul_comm]

theorem limbsValue_append (xs ys : List Limb) :
    limbsValue (xs ++ ys) = limbsValue xs + 2 ^ (64 * xs.length) * limbsValue ys := by
  induction xs with
  | nil => simp
  | cons x xs ih =>
    rw [List.cons_append, limbsValue_cons, limbsValue_cons, ih, List.length_cons, two_pow_limbs_succ]
    ring

theorem limbsValue_lt (xs : List Limb) : limbsValue xs < 2 ^ (64 * xs.length) := by
  induction xs with
  | nil => exact Nat.one_pos
  | cons x xs ih =>
    have hx := x.isLt
    rw [limbsValue_cons, List.length_cons, two_pow_limbs_succ]
    omega

@[simp] theorem limbsValue_replicate_zero (n : Nat) : limbsValue (List.replicate n 0) = 0 := by
  induction n with
  | zero => rfl
  | succ n ih => rw [List.replicate_succ, limbsValue_cons, ih]; rfl

theorem limbsValue_eq_zero_iff (xs : List Limb) : limbsValue xs = 0 ↔ ∀ x ∈ xs, x = 0 := by
  induction xs with
  | nil => simp
  | cons x xs ih =>
    have hx : x.toNat = 0 ↔ x = 0 := BitVec.toNat_inj (y := 0)
    rw [List.forall_mem_cons, ← ih, ← hx, limbsValue_cons]
    omega

/-- The first `n` limbs of a vector are its number's lowest part. -/
theorem limbsValue_take (n : Nat) (xs : List Limb) :
    limbsValue (xs.take n) = limbsValue xs % 2 ^ (64 * n) := by
  induction n generalizing xs with
  | zero => rw [List.take_zero, limbsValue_nil, Nat.mul_zero, Nat.pow_zero, Nat.mod_one]
  | succ n ih =>
    cases xs with
    | nil => simp
    | cons x xs =>
      have hx := x.isLt
      have hlow : (x.toNat + 2 ^ 64 * limbsValue xs) % 2 ^ 64 = x.toNat := by omega
      have hhigh : (x.toNat + 2 ^ 64 * limbsValue xs) / 2 ^ 64 = limbsValue xs := by omega
      rw [List.take_succ_cons, limbsValue_cons, limbsValue_cons, ih, two_pow_limbs_succ, Nat.mod_mul, hlow,
        hhigh]

/-- The limbs from the `n`th on are its number's upper part. -/
theorem limbsValue_drop (n : Nat) (xs : List Limb) :
    limbsValue (xs.drop n) = limbsValue xs / 2 ^ (64 * n) := by
  induction n generalizing xs with
  | zero => rw [List.drop_zero, Nat.mul_zero, Nat.pow_zero, Nat.div_one]
  | succ n ih =>
    cases xs with
    | nil => simp
    | cons x xs =>
      have hx := x.isLt
      have hhigh : (x.toNat + 2 ^ 64 * limbsValue xs) / 2 ^ 64 = limbsValue xs := by omega
      rw [List.drop_succ_cons, ih, limbsValue_cons, two_pow_limbs_succ, ← Nat.div_div_eq_div_mul, hhigh]

@[simp] theorem length_toLimbs (n v : Nat) : (toLimbs n v).length = n := by
  induction n generalizing v with
  | zero => rfl
  | succ n ih => rw [toLimbs, List.length_cons, ih]

theorem limbsValue_toLimbs (n v : Nat) : limbsValue (toLimbs n v) = v % 2 ^ (64 * n) := by
  induction n generalizing v with
  | zero => rw [toLimbs, limbsValue_nil, Nat.mul_zero, Nat.pow_zero, Nat.mod_one]
  | succ n ih => rw [toLimbs, limbsValue_cons, BitVec.toNat_ofNat, ih, two_pow_limbs_succ, Nat.mod_mul]

/-- A width is a whole number of limbs (44_limb_algorithms.md `L = W / 64`). -/
theorem widthBits_eq (w : Width) : widthBits w = 64 * widthLimbs w := by
  cases w <;> rfl

/-- The limbs of a value of a width spell it. -/
theorem limbsValue_toLimbs_of_lt {w : Width} {v : Nat} (h : v < 2 ^ widthBits w) :
    limbsValue (toLimbs (widthLimbs w) v) = v := by
  rw [limbsValue_toLimbs, ← widthBits_eq, Nat.mod_eq_of_lt h]

/-- Induction over two limb vectors of one length, as the chains of R126 to R128 walk them. -/
theorem sameLength_induction {P : (xs ys : List Limb) → xs.length = ys.length → Prop} (nil : P [] [] rfl)
    (cons : ∀ (x : Limb) (xs : List Limb) (y : Limb) (ys : List Limb) (h : xs.length = ys.length),
      P xs ys h → P (x :: xs) (y :: ys) (congrArg Nat.succ h)) :
    ∀ {xs ys : List Limb} (h : xs.length = ys.length), P xs ys h
  | [], [], _ => nil
  | x :: xs, y :: ys, h => cons x xs y ys (Nat.succ.inj h) (sameLength_induction nil cons _)

/-! ### The carry chain (R126) -/

theorem addChain_cons (c : Nat) (x y : Limb) (xs ys : List Limb) :
    addChain c (x :: xs) (y :: ys) =
      (BitVec.ofNat 64 (x.toNat + y.toNat + c) ::
          (addChain ((x.toNat + y.toNat + c) / 2 ^ 64) xs ys).1,
        (addChain ((x.toNat + y.toNat + c) / 2 ^ 64) xs ys).2) := rfl

theorem length_addChain {xs ys : List Limb} (h : xs.length = ys.length) (c : Nat) :
    (addChain c xs ys).1.length = xs.length := by
  induction h using sameLength_induction generalizing c with
  | nil => rfl
  | cons x xs y ys _ ih => simp only [addChain_cons, List.length_cons, ih]

/-- The chain adds the numbers and the carry into the first limb. -/
theorem addChain_sum {xs ys : List Limb} (h : xs.length = ys.length) (c : Nat) :
    limbsValue xs + limbsValue ys + c =
      limbsValue (addChain c xs ys).1 + (addChain c xs ys).2 * 2 ^ (64 * xs.length) := by
  induction h using sameLength_induction generalizing c with
  | nil => simp [addChain]
  | cons x xs y ys _ ih =>
    have hrest := ih ((x.toNat + y.toNat + c) / 2 ^ 64)
    simp only [addChain_cons, limbsValue_cons, List.length_cons, two_pow_limbs_succ, BitVec.toNat_ofNat,
      Nat.mul_left_comm _ (2 ^ 64)]
    omega

/-- The carry out is what the sum has above the last limb. -/
theorem addChain_carry {xs ys : List Limb} (h : xs.length = ys.length) :
    (addChain 0 xs ys).2 = (limbsValue xs + limbsValue ys) / 2 ^ (64 * xs.length) := by
  have hlimbs := limbsValue_lt (addChain 0 xs ys).1
  rw [length_addChain h] at hlimbs
  rw [← Nat.add_zero (limbsValue xs + limbsValue ys), addChain_sum h 0,
    Nat.add_mul_div_right _ _ (Nat.two_pow_pos _), Nat.div_eq_of_lt hlimbs, Nat.zero_add]

theorem addChain_carry_le_one {xs ys : List Limb} (h : xs.length = ys.length) :
    (addChain 0 xs ys).2 ≤ 1 := by
  have hx := limbsValue_lt xs
  have hy := limbsValue_lt ys
  rw [← h] at hy
  rw [addChain_carry h]
  exact Nat.le_of_lt_succ ((Nat.div_lt_iff_lt_mul (Nat.two_pow_pos _)).mpr (by omega))

theorem addChain_carry_eq_one_iff {xs ys : List Limb} (h : xs.length = ys.length) :
    (addChain 0 xs ys).2 = 1 ↔ 2 ^ (64 * xs.length) ≤ limbsValue xs + limbsValue ys := by
  have hle := addChain_carry_le_one h
  have hpos := Nat.div_pos_iff (a := limbsValue xs + limbsValue ys) (b := 2 ^ (64 * xs.length))
  rw [← addChain_carry h] at hpos
  have hradix := Nat.two_pow_pos (64 * xs.length)
  omega

/-- Settles O53: without a carry out the chain's limbs are the whole sum. -/
theorem carryChainAdds : Obligations.CarryChainAdds := by
  refine ⟨fun xs ys h => ⟨addChain_sum h 0, addChain_carry_eq_one_iff h, addChain_carry_le_one h⟩,
    fun w a b ha hb => ?_⟩
  have hlen : (toLimbs (widthLimbs w) a).length = (toLimbs (widthLimbs w) b).length := by simp
  have hsum := addChain_sum hlen 0
  have hcarry := addChain_carry_eq_one_iff hlen
  have hle := addChain_carry_le_one hlen
  rw [limbsValue_toLimbs_of_lt ha, limbsValue_toLimbs_of_lt hb, length_toLimbs, ← widthBits_eq] at hsum hcarry
  rw [checkedAdd]
  split
  case isTrue hover => rw [if_pos (hcarry.mpr hover)]
  case isFalse hfits =>
    have hnone : (addChain 0 (toLimbs (widthLimbs w) a) (toLimbs (widthLimbs w) b)).2 = 0 := by omega
    rw [if_neg (by omega), ← Nat.add_zero (a + b), hsum, hnone, Nat.zero_mul, Nat.add_zero]

/-! ### The borrow chain (R127) -/

theorem subChain_cons (c : Nat) (x y : Limb) (xs ys : List Limb) :
    subChain c (x :: xs) (y :: ys) =
      if y.toNat + c ≤ x.toNat then
        (BitVec.ofNat 64 (x.toNat - y.toNat - c) :: (subChain 0 xs ys).1, (subChain 0 xs ys).2)
      else
        (BitVec.ofNat 64 (x.toNat + 2 ^ 64 - y.toNat - c) :: (subChain 1 xs ys).1, (subChain 1 xs ys).2) :=
  rfl

theorem length_subChain {xs ys : List Limb} (h : xs.length = ys.length) (c : Nat) :
    (subChain c xs ys).1.length = xs.length := by
  induction h using sameLength_induction generalizing c with
  | nil => rfl
  | cons x xs y ys _ ih => rw [subChain_cons]; split <;> simp only [List.length_cons, ih]

theorem subChain_borrow_le_one {xs ys : List Limb} (h : xs.length = ys.length) {c : Nat} (hc : c ≤ 1) :
    (subChain c xs ys).2 ≤ 1 := by
  induction h using sameLength_induction generalizing c with
  | nil => exact hc
  | cons x xs y ys _ ih =>
    rw [subChain_cons]
    split
    · exact ih (Nat.zero_le 1)
    · exact ih (Nat.le_refl 1)

/-- The chain subtracts the second number and the borrow into the first limb. -/
theorem subChain_difference {xs ys : List Limb} (h : xs.length = ys.length) {c : Nat} (hc : c ≤ 1) :
    limbsValue xs + (subChain c xs ys).2 * 2 ^ (64 * xs.length) =
      limbsValue (subChain c xs ys).1 + limbsValue ys + c := by
  induction h using sameLength_induction generalizing c with
  | nil => simp [subChain]
  | cons x xs y ys _ ih =>
    have hx := x.isLt
    have hy := y.isLt
    simp only [subChain_cons, limbsValue_cons, List.length_cons, two_pow_limbs_succ,
      Nat.mul_left_comm _ (2 ^ 64)]
    split
    case isTrue hcovered =>
      have hrest := ih (Nat.zero_le 1)
      simp only [limbsValue_cons, BitVec.toNat_ofNat]
      omega
    case isFalse hborrow =>
      have hrest := ih (Nat.le_refl 1)
      simp only [limbsValue_cons, BitVec.toNat_ofNat]
      omega

theorem subChain_borrow_eq_one_iff {xs ys : List Limb} (h : xs.length = ys.length) :
    (subChain 0 xs ys).2 = 1 ↔ limbsValue xs < limbsValue ys := by
  have hdiff := subChain_difference h (Nat.zero_le 1)
  have hlimbs := limbsValue_lt (subChain 0 xs ys).1
  have hx := limbsValue_lt xs
  rw [length_subChain h] at hlimbs
  obtain hnone | hone : (subChain 0 xs ys).2 = 0 ∨ (subChain 0 xs ys).2 = 1 := by
    have := subChain_borrow_le_one h (Nat.zero_le 1)
    omega
  · rw [hnone] at hdiff ⊢
    omega
  · rw [hone] at hdiff ⊢
    omega

/-- The chain on the limbs of two values of a width borrows exactly when the second is greater. -/
theorem subChain_toLimbs_borrow {w : Width} {a b : Nat} (ha : a < 2 ^ widthBits w)
    (hb : b < 2 ^ widthBits w) :
    (subChain 0 (toLimbs (widthLimbs w) a) (toLimbs (widthLimbs w) b)).2 = 1 ↔ a < b := by
  rw [subChain_borrow_eq_one_iff (by simp), limbsValue_toLimbs_of_lt ha, limbsValue_toLimbs_of_lt hb]

/-- `CheckedSub` by the borrow out. -/
theorem checkedSub_eq_subChain {w : Width} {a b : Nat} (ha : a < 2 ^ widthBits w)
    (hb : b < 2 ^ widthBits w) :
    checkedSub a b =
      if (subChain 0 (toLimbs (widthLimbs w) a) (toLimbs (widthLimbs w) b)).2 = 1 then .error .underflow
      else .ok (limbsValue (subChain 0 (toLimbs (widthLimbs w) a) (toLimbs (widthLimbs w) b)).1) := by
  have hlen : (toLimbs (widthLimbs w) a).length = (toLimbs (widthLimbs w) b).length := by simp
  have hdiff := subChain_difference hlen (Nat.zero_le 1)
  have hle := subChain_borrow_le_one hlen (Nat.zero_le 1)
  have hborrow := subChain_toLimbs_borrow ha hb
  rw [limbsValue_toLimbs_of_lt ha, limbsValue_toLimbs_of_lt hb] at hdiff
  rw [checkedSub]
  split
  case isTrue hless => rw [if_pos (hborrow.mpr hless)]
  case isFalse hge =>
    have hnone : (subChain 0 (toLimbs (widthLimbs w) a) (toLimbs (widthLimbs w) b)).2 = 0 := by omega
    rw [hnone, Nat.zero_mul] at hdiff
    rw [if_neg (by omega)]
    exact congrArg Except.ok (by omega)

/-- The borrow chain on `(MAXRAW_T, v)` is the ceiling test (41_scaled_arith.md R90). -/
theorem ceilingByBorrow_eq_inDomain {t : STy} {v : Nat} (h : v < 2 ^ widthBits (backing t)) :
    ceilingByBorrow t v = inDomain t v :=
  if_congr (subChain_toLimbs_borrow (lt_width_of_le_maxRaw le_rfl) h) rfl rfl

/-- Settles O54: the borrow out, never more than 1, tells which number is greater. -/
theorem borrowChainSubtracts : Obligations.BorrowChainSubtracts :=
  ⟨fun _ _ h => ⟨subChain_difference h (Nat.zero_le 1), subChain_borrow_eq_one_iff h,
      subChain_borrow_le_one h (Nat.zero_le 1)⟩,
    fun _ _ _ => checkedSub_eq_subChain, fun _ _ => ceilingByBorrow_eq_inDomain⟩

/-! ### The comparator (R128) -/

/-- Of two numbers with a digit in front, the digits decide unless they agree. -/
theorem wideCmp_top_digit {a b radix : Nat} (ha : a < radix) (hb : b < radix) (x y : Nat) :
    wideCmp (a + radix * x) (b + radix * y) =
      if x < y then 0 else if y < x then 2 else wideCmp a b := by
  obtain hlt | rfl | hgt := Nat.lt_trichotomy x y
  · have hroom := Nat.mul_le_mul_left radix (Nat.succ_le_of_lt hlt)
    rw [Nat.mul_succ] at hroom
    rw [if_pos hlt, wideCmp, if_pos (by omega)]
  · simp only [wideCmp, Nat.lt_irrefl, if_false, Nat.add_lt_add_iff_right, Nat.add_right_cancel_iff]
  · have hroom := Nat.mul_le_mul_left radix (Nat.succ_le_of_lt hgt)
    rw [Nat.mul_succ] at hroom
    rw [if_neg (by omega), if_pos hgt, wideCmp, if_neg (by omega), if_neg (by omega)]

/-- The comparison from the top limb down, its vectors listed most significant limb first. -/
theorem cmpFromTop_eq_wideCmp {xs ys : List Limb} (h : xs.length = ys.length) :
    cmpFromTop xs ys = wideCmp (limbsValue xs.reverse) (limbsValue ys.reverse) := by
  induction h using sameLength_induction with
  | nil => rfl
  | cons x xs y ys htail ih =>
    have hx := limbsValue_lt xs.reverse
    have hy := limbsValue_lt ys.reverse
    rw [List.length_reverse] at hx hy
    rw [← htail] at hy
    simp only [List.reverse_cons, limbsValue_append, limbsValue_cons, limbsValue_nil, List.length_reverse,
      ← htail, Nat.mul_zero, Nat.add_zero, wideCmp_top_digit hx hy, cmpFromTop, ih]

/-- Settles O55: reversing a vector twice gives it back. -/
theorem limbComparatorOrdersNumbers : Obligations.LimbComparatorOrdersNumbers := by
  intro xs ys h
  rw [cmpLimbs, cmpFromTop_eq_wideCmp (by simpa using h), List.reverse_reverse, List.reverse_reverse, wideCmp]

/-! ### The multiplier (R129) and its overflow test (R130) -/

/-- A limb product with the old limb and the carry limb added fits two limbs. -/
theorem two_limb_accumulate (p x y k : Limb) :
    (p.toNat + x.toNat * y.toNat + k.toNat) / 2 ^ 64 < 2 ^ 64 := by
  have hp := p.isLt
  have hk := k.isLt
  have hxy : x.toNat * y.toNat ≤ (2 ^ 64 - 1) * (2 ^ 64 - 1) :=
    Nat.mul_le_mul (Nat.le_sub_one_of_lt x.isLt) (Nat.le_sub_one_of_lt y.isLt)
  omega

/-- The inner loop adds `x * b` and the carry to the limbs of the product register that stand over `b`, puts
its last carry in the next limb, whatever that held, and leaves the limbs above. -/
theorem mulRow_append (x : Limb) {q ys : List Limb} (h : q.length = ys.length) (z k : Limb)
    (zs : List Limb) :
    ∃ row, mulRow x ys (q ++ z :: zs) k = row ++ zs ∧ row.length = ys.length + 1 ∧
      limbsValue row = limbsValue q + x.toNat * limbsValue ys + k.toNat := by
  induction h using sameLength_induction generalizing k with
  | nil => exact ⟨[k], rfl, rfl, by simp⟩
  | cons p q y ys _ ih =>
    have hfits := two_limb_accumulate p x y k
    obtain ⟨row, hrow, hlen, hval⟩ := ih (BitVec.ofNat 64 ((p.toNat + x.toNat * y.toNat + k.toNat) / 2 ^ 64))
    refine ⟨BitVec.ofNat 64 (p.toNat + x.toNat * y.toNat + k.toNat) :: row, ?_, ?_, ?_⟩
    · rw [List.cons_append, mulRow, hrow, List.cons_append]
    · rw [List.length_cons, List.length_cons, hlen]
    · rw [BitVec.toNat_ofNat, Nat.mod_eq_of_lt hfits] at hval
      rw [limbsValue_cons, limbsValue_cons, limbsValue_cons, hval, BitVec.toNat_ofNat, Nat.mul_add x.toNat,
        Nat.mul_left_comm x.toNat]
      omega

/-- The outer loop, from a row on: below the limbs that are still zero the register holds `q`, as long as
the multiplicand. -/
theorem mulRows_append (xs : List Limb) {q ys : List Limb} (h : q.length = ys.length) :
    limbsValue (mulRows xs ys (q ++ List.replicate xs.length 0)) =
        limbsValue q + limbsValue xs * limbsValue ys ∧
      (mulRows xs ys (q ++ List.replicate xs.length 0)).length = xs.length + ys.length := by
  induction xs generalizing q with
  | nil => simp [mulRows, h]
  | cons x xs ih =>
    obtain ⟨row, hrow, hlen, hval⟩ := mulRow_append x h 0 0 (List.replicate xs.length 0)
    obtain ⟨r, rs, rfl⟩ := List.exists_cons_of_length_eq_add_one hlen
    obtain ⟨ihval, ihlen⟩ := ih (Nat.succ.inj hlen)
    rw [List.length_cons, List.replicate_succ, mulRows, hrow, List.cons_append]
    refine ⟨?_, ?_⟩
    · have hzero : (0 : Limb).toNat = 0 := rfl
      rw [limbsValue_cons, hzero, Nat.add_zero] at hval
      rw [limbsValue_cons, limbsValue_cons, ihval, Nat.mul_add, ← Nat.add_assoc, hval]
      ring
    · rw [List.length_cons, ihlen]
      omega

theorem limbsValue_mulLimbs (xs ys : List Limb) :
    limbsValue (mulLimbs xs ys) = limbsValue xs * limbsValue ys := by
  have hrows := (mulRows_append xs (q := List.replicate ys.length 0) (ys := ys) (by simp)).1
  rwa [List.replicate_append_replicate, Nat.add_comm ys.length, limbsValue_replicate_zero, Nat.zero_add]
    at hrows

theorem length_mulLimbs (xs ys : List Limb) : (mulLimbs xs ys).length = xs.length + ys.length := by
  have hrows := (mulRows_append xs (q := List.replicate ys.length 0) (ys := ys) (by simp)).2
  rwa [List.replicate_append_replicate, Nat.add_comm ys.length] at hrows

/-- Some limb above the `n`th is not zero exactly when the number does not fit `n` limbs. -/
theorem any_high_limb_iff (n : Nat) (xs : List Limb) :
    (xs.drop n).any (fun x => x ≠ 0) = true ↔ 2 ^ (64 * n) ≤ limbsValue xs := by
  have hzero := limbsValue_eq_zero_iff (xs.drop n)
  rw [limbsValue_drop, Nat.div_eq_zero_iff_lt (Nat.two_pow_pos _)] at hzero
  rw [← Nat.not_lt, hzero]
  simp

/-- The multiplier and the test on its high limbs are `CheckedMul` (R130). -/
theorem checkedMulLimbs_eq_checkedMul {w : Width} {a b : Nat} (ha : a < 2 ^ widthBits w)
    (hb : b < 2 ^ widthBits w) : checkedMulLimbs w a b = checkedMul w a b := by
  simp only [checkedMulLimbs, any_high_limb_iff, limbsValue_take, limbsValue_mulLimbs,
    limbsValue_toLimbs_of_lt ha, limbsValue_toLimbs_of_lt hb, ← widthBits_eq, checkedMul]
  split
  case isTrue => rfl
  case isFalse hfits => rw [Nat.mod_eq_of_lt (Nat.not_le.mp hfits)]

/-- Settles O56: each row of the product register adds one limb's multiple of the multiplicand. -/
theorem schoolbookMultiplierIsExact : Obligations.SchoolbookMultiplierIsExact :=
  ⟨fun xs ys => ⟨limbsValue_mulLimbs xs ys, length_mulLimbs xs ys⟩, fun _ _ _ => checkedMulLimbs_eq_checkedMul⟩

/-! ### The restoring divider (R131) -/

/-- One step: bringing the next bit down doubles quotient and remainder, and one subtraction of the divisor
restores the remainder to its range. -/
theorem div_mod_next_bit {b bit : Nat} (hb : b ≠ 0) (hbit : bit < 2) (m : Nat) :
    ((2 * m + bit) / b, (2 * m + bit) % b) =
      if b ≤ 2 * (m % b) + bit then (2 * (m / b) + 1, 2 * (m % b) + bit - b)
      else (2 * (m / b), 2 * (m % b) + bit) := by
  have hpos := Nat.pos_of_ne_zero hb
  have hrange := Nat.mod_lt m hpos
  have hsofar := Nat.mod_add_div m b
  have hdouble : b * (2 * (m / b)) = 2 * (b * (m / b)) := Nat.mul_left_comm b 2 _
  split
  case isTrue hsub =>
    have hnext := (Nat.div_mod_unique (a := 2 * m + bit) (c := 2 * (m % b) + bit - b)
      (d := 2 * (m / b) + 1) hpos).mpr ⟨by rw [Nat.mul_add]; omega, by omega⟩
    rw [hnext.1, hnext.2]
  case isFalse hkeep =>
    have hnext := (Nat.div_mod_unique (a := 2 * m + bit) (c := 2 * (m % b) + bit)
      (d := 2 * (m / b)) hpos).mpr ⟨by omega, by omega⟩
    rw [hnext.1, hnext.2]

/-- With `i` bits still to bring down, the remainder and the quotient so far are those of the bits already
brought down. -/
theorem divBitsFrom_of_bits_down (a : Nat) {b : Nat} (hb : b ≠ 0) (i : Nat) :
    divBitsFrom a b i (a / 2 ^ i % b) (a / 2 ^ i / b * 2 ^ i) = (a / b, a % b) := by
  induction i with
  | zero => simp [divBitsFrom]
  | succ i ih =>
    have hbits : 2 * (a / 2 ^ (i + 1)) + a / 2 ^ i % 2 = a / 2 ^ i := by
      rw [Nat.pow_succ, ← Nat.div_div_eq_div_mul, Nat.div_add_mod]
    have hnext := div_mod_next_bit hb (Nat.mod_lt (a / 2 ^ i) two_pos) (a / 2 ^ (i + 1))
    have hquot : a / 2 ^ (i + 1) / b * 2 ^ (i + 1) = 2 * (a / 2 ^ (i + 1) / b) * 2 ^ i := by
      rw [Nat.pow_succ]
      ring
    rw [hbits] at hnext
    rw [divBitsFrom, hquot]
    split at hnext
    case isTrue hsub =>
      obtain ⟨hdiv, hmod⟩ := Prod.mk.inj hnext
      rw [hdiv, hmod, Nat.succ_mul (2 * _)] at ih
      rw [if_pos hsub, ih]
    case isFalse hkeep =>
      obtain ⟨hdiv, hmod⟩ := Prod.mk.inj hnext
      rw [hdiv, hmod] at ih
      rw [if_neg hkeep, ih]

/-- The divider starts with no bit brought down. -/
theorem divBits_eq {w : Width} {a b : Nat} (ha : a < 2 ^ widthBits w) (hb : b ≠ 0) :
    divBits w a b = (a / b, a % b) := by
  have hstart := divBitsFrom_of_bits_down a hb (widthBits w)
  rwa [Nat.div_eq_of_lt ha, Nat.zero_mod, Nat.zero_div, Nat.zero_mul] at hstart

/-- Settles O57: after the last bit the quotient and remainder so far are the whole ones. -/
theorem restoringDividerDivides : Obligations.RestoringDividerDivides :=
  fun _ _ _ => divBits_eq

/-! ### The shifter (R133) -/

/-- The limbs of a number one by one. -/
theorem toLimbs_eq_map (n v : Nat) :
    toLimbs n v = (List.range n).map fun i => BitVec.ofNat 64 (v / 2 ^ (64 * i)) := by
  induction n generalizing v with
  | zero => rfl
  | succ n ih =>
    simp only [toLimbs, ih, List.range_succ_eq_map, List.map_cons, List.map_map, Function.comp_def,
      Nat.mul_zero, Nat.pow_zero, Nat.div_one, Nat.succ_eq_add_one, two_pow_limbs_succ,
      Nat.div_div_eq_div_mul]

/-- Limb `i` of a number; above its last limb it is zero, as the number is. -/
theorem limbAt_toLimbs {n v : Nat} (h : v < 2 ^ (64 * n)) (i : Nat) :
    limbAt (toLimbs n v) i = v / 2 ^ (64 * i) % 2 ^ 64 := by
  rw [limbAt, toLimbs_eq_map]
  obtain hlt | hge := Nat.lt_or_ge i n
  · simp [List.getD_eq_getElem?_getD, hlt]
  · have hzero : v / 2 ^ (64 * i) = 0 :=
      Nat.div_eq_of_lt (h.trans_le (Nat.pow_le_pow_right two_pos (Nat.mul_le_mul_left 64 hge)))
    simp [List.getD_eq_getElem?_getD, hge, hzero]

/-- A limb read `s` bits up a number is put together from the two limbs it lies across: what is left of the
lower one and what comes in from the upper one. -/
theorem limb_across_two {s : Nat} (hs : s ≤ 64) (c : Nat) :
    c / 2 ^ s % 2 ^ 64 =
      c % 2 ^ 64 / 2 ^ s + c / 2 ^ 64 % 2 ^ 64 * 2 ^ (64 - s) % 2 ^ 64 := by
  have hradix : 2 ^ 64 = 2 ^ (64 - s) * 2 ^ s := by rw [← Nat.pow_add, Nat.sub_add_cancel hs]
  have hlow : c / 2 ^ s % 2 ^ (64 - s) = c % 2 ^ 64 / 2 ^ s := by
    rw [hradix, Nat.mul_comm, Nat.mod_mul_right_div_self]
  have hhigh : c / 2 ^ s / 2 ^ (64 - s) = c / 2 ^ 64 := by
    rw [Nat.div_div_eq_div_mul, Nat.mul_comm, ← hradix]
  calc c / 2 ^ s % 2 ^ 64
      = c / 2 ^ s % 2 ^ (64 - s) + 2 ^ (64 - s) * (c / 2 ^ s / 2 ^ (64 - s) % 2 ^ s) := by
        rw [hradix, Nat.mod_mul]
    _ = c % 2 ^ 64 / 2 ^ s + c / 2 ^ 64 * 2 ^ (64 - s) % 2 ^ 64 := by
        rw [hlow, hhigh, ← Nat.mul_mod_mul_left, ← hradix, Nat.mul_comm]
    _ = c % 2 ^ 64 / 2 ^ s + c / 2 ^ 64 % 2 ^ 64 * 2 ^ (64 - s) % 2 ^ 64 := by
        rw [Nat.mod_mul_mod]

/-- A count is whole limbs and then bits. -/
theorem two_pow_count (n : Nat) : 2 ^ n = 2 ^ (64 * (n / 64)) * 2 ^ (n % 64) := by
  rw [← Nat.pow_add, Nat.div_add_mod]

/-- The rule's test for a count of whole limbs changes nothing on the right: a whole limb moved up leaves
the limb. -/
theorem bits_from_upper (s z : Nat) :
    (if s = 0 then 0 else z * 2 ^ (64 - s) % 2 ^ 64) = z * 2 ^ (64 - s) % 2 ^ 64 := by
  split
  case isTrue h => rw [h, Nat.sub_zero, Nat.mul_mod_left]
  case isFalse => rfl

/-- The rule's test for a count of whole limbs changes nothing on the left: a limb moved down by a whole
limb is gone. -/
theorem bits_from_lower {y : Nat} (hy : y < 2 ^ 64) (s : Nat) :
    (if s = 0 then 0 else y / 2 ^ (64 - s)) = y / 2 ^ (64 - s) := by
  split
  case isTrue h => rw [h, Nat.sub_zero, Nat.div_eq_of_lt hy]
  case isFalse => rfl

/-- The right shifter's limbs are those of the quotient: limb `i` lies across limbs `i + k` and `i + k + 1`
of the operand. -/
theorem shrLimbs_toLimbs {l a : Nat} (h : a < 2 ^ (64 * l)) (n : Nat) :
    shrLimbs (toLimbs l a) n = toLimbs l (a / 2 ^ n) := by
  rw [shrLimbs, toLimbs_eq_map l (a / 2 ^ n), length_toLimbs]
  refine List.map_congr_left fun i _ => BitVec.eq_of_toNat_eq ?_
  have hbits : n % 64 ≤ 64 := (Nat.mod_lt n (by decide)).le
  have hplace : a / 2 ^ n / 2 ^ (64 * i) = a / 2 ^ (64 * (i + n / 64)) / 2 ^ (n % 64) := by
    rw [Nat.div_div_eq_div_mul, Nat.div_div_eq_div_mul, two_pow_count n, Nat.mul_add, Nat.pow_add]
    congr 1
    ring
  have hnext : a / 2 ^ (64 * (i + n / 64 + 1)) = a / 2 ^ (64 * (i + n / 64)) / 2 ^ 64 := by
    rw [two_pow_limbs_succ, Nat.mul_comm, Nat.div_div_eq_div_mul]
  rw [BitVec.toNat_ofNat, BitVec.toNat_ofNat, hplace, bits_from_upper, limbAt_toLimbs h, limbAt_toLimbs h,
    hnext, ← limb_across_two hbits, Nat.mod_mod]

/-- A product by a power of two has no bits in the limbs below the count. -/
theorem limb_of_product_below {i n : Nat} (h : i < n / 64) (a : Nat) :
    a * 2 ^ n / 2 ^ (64 * i) % 2 ^ 64 = 0 := by
  have hcount : 2 ^ n = 2 ^ (n - 64 * (i + 1)) * 2 ^ 64 * 2 ^ (64 * i) := by
    rw [← Nat.pow_add, ← Nat.pow_add]
    congr 1
    omega
  rw [hcount, ← Nat.mul_assoc, Nat.mul_div_cancel _ (Nat.two_pow_pos _), ← Nat.mul_assoc, Nat.mul_mod_left]

/-- The limbs of a product by a power of two from the count on, read in the operand moved up one limb. -/
theorem limb_of_product_from (a n j : Nat) :
    a * 2 ^ n / 2 ^ (64 * (n / 64 + j)) = a * 2 ^ 64 / 2 ^ (64 * j) / 2 ^ (64 - n % 64) := by
  have hradix : 2 ^ 64 = 2 ^ (n % 64) * 2 ^ (64 - n % 64) := by
    rw [← Nat.pow_add]
    congr 1
    omega
  rw [two_pow_count n, Nat.mul_add, Nat.pow_add, Nat.mul_left_comm a,
    Nat.mul_div_mul_left _ _ (Nat.two_pow_pos _), Nat.div_div_eq_div_mul, hradix, ← Nat.mul_assoc a,
    Nat.mul_div_mul_right _ _ (Nat.two_pow_pos _)]

/-- What comes in from the limb below: limb `j - 1` of the operand, or a zero below limb `0`. -/
theorem bits_from_limb_below {l a : Nat} (h : a < 2 ^ (64 * l)) (s k j : Nat) :
    (if s = 0 then 0
      else if k + 1 ≤ k + j then limbAt (toLimbs l a) (k + j - k - 1) / 2 ^ (64 - s) else 0) =
      a * 2 ^ 64 / 2 ^ (64 * j) % 2 ^ 64 / 2 ^ (64 - s) := by
  rw [← bits_from_lower (Nat.mod_lt _ (Nat.two_pow_pos 64))]
  cases j with
  | zero => simp
  | succ j =>
    have hlimb : a * 2 ^ 64 / 2 ^ (64 * (j + 1)) = a / 2 ^ (64 * j) := by
      rw [two_pow_limbs_succ, Nat.mul_comm a, Nat.mul_div_mul_left _ _ (Nat.two_pow_pos 64)]
    have hreach : k + 1 ≤ k + (j + 1) := by omega
    rw [if_pos hreach, Nat.add_sub_cancel_left, Nat.add_sub_cancel, limbAt_toLimbs h, hlimb]

/-- The left shifter's limbs are those of the product: below limb `k` zeros, and limb `k + j` lies across
limbs `j - 1` and `j` of the operand, limb `k` across a zero and limb `0`. -/
theorem shlLimbs_toLimbs {l a : Nat} (h : a < 2 ^ (64 * l)) (n : Nat) :
    shlLimbs (toLimbs l a) n = toLimbs l (a * 2 ^ n) := by
  rw [shlLimbs, toLimbs_eq_map l (a * 2 ^ n), length_toLimbs]
  refine List.map_congr_left fun i _ => BitVec.eq_of_toNat_eq ?_
  rw [BitVec.toNat_ofNat, BitVec.toNat_ofNat]
  obtain hbelow | hfrom := Nat.lt_or_ge i (n / 64)
  · have hnotyet : ¬ n / 64 + 1 ≤ i := by omega
    simp only [limb_of_product_below hbelow, if_neg (Nat.not_le.mpr hbelow), if_neg hnotyet, ite_self]
  · obtain ⟨j, rfl⟩ := Nat.exists_eq_add_of_le hfrom
    have hbits : 64 - (64 - n % 64) = n % 64 := by omega
    have hupper : a * 2 ^ 64 / 2 ^ (64 * j) / 2 ^ 64 = a / 2 ^ (64 * j) := by
      rw [Nat.div_div_eq_div_mul, Nat.mul_div_mul_right _ _ (Nat.two_pow_pos 64)]
    have hacross := limb_across_two (Nat.sub_le 64 (n % 64)) (a * 2 ^ 64 / 2 ^ (64 * j))
    rw [hbits, hupper, ← limb_of_product_from] at hacross
    rw [bits_from_limb_below h, if_pos hfrom, Nat.add_sub_cancel_left, limbAt_toLimbs h, Nat.add_comm,
      ← hacross, Nat.mod_mod]

/-- Settles O58: the shifted limbs are the limbs of the shifted number, the left ones cut off at the width. -/
theorem limbShifterShifts : Obligations.LimbShifterShifts := by
  intro w a n ha hn
  have hlimbs : a < 2 ^ (64 * widthLimbs w) := widthBits_eq w ▸ ha
  refine ⟨?_, ?_⟩
  · rw [shlLimbs_toLimbs hlimbs, limbsValue_toLimbs, ← widthBits_eq, shl, if_neg (Nat.not_le.mpr hn)]
  · rw [shrLimbs_toLimbs hlimbs, limbsValue_toLimbs_of_lt ((Nat.div_le_self a _).trans_lt ha), shr,
      if_neg (Nat.not_le.mpr hn)]

/-! ### The scaled engines (R132) -/

theorem scale_lt_width (t : STy) : scale t < 2 ^ widthBits (backing t) := by
  cases t <;> decide

/-- Divide, then test against the ceiling: what both engines do with a product that passed the overflow
test. -/
theorem ceiling_of_quotient {t : STy} {p b : Nat} (hp : p < 2 ^ widthBits (backing t)) (hb : b ≠ 0) :
    ceilingByBorrow t (divBits (backing t) p b).1 = inDomain t (p / b) := by
  rw [divBits_eq hp hb, ceilingByBorrow_eq_inDomain ((Nat.div_le_self p b).trans_lt hp)]

/-- The two engines after their multiplier. -/
theorem checkedMulLimbs_bind_ceiling {t : STy} {a c b : Nat} (ha : a < 2 ^ widthBits (backing t))
    (hc : c < 2 ^ widthBits (backing t)) (hb : b ≠ 0) :
    (checkedMulLimbs (backing t) a c >>= fun p => ceilingByBorrow t (divBits (backing t) p b).1) =
      (checkedMul (backing t) a c >>= fun p => inDomain t (p / b)) := by
  rw [checkedMulLimbs_eq_checkedMul ha hc, checkedMul_eq_heldTo]
  obtain hfits | hover := Nat.lt_or_ge (a * c) (2 ^ widthBits (backing t))
  · rw [heldTo_of_lt hfits, ok_bind, ok_bind, ceiling_of_quotient hfits hb]
  · rw [heldTo_of_ge hover, error_bind, error_bind]

/-- Settles O59: the engines divide by the scale, which is not zero, and by an operand tested first. -/
theorem scaledEnginesAreBuiltFromLimbBlocks : Obligations.ScaledEnginesAreBuiltFromLimbBlocks := by
  intro t a b ha hb
  refine ⟨checkedMulLimbs_bind_ceiling ha hb (scale_pos t).ne', ?_⟩
  rw [scaledDivLimbs, scaledDiv]
  split
  case isTrue => rfl
  case isFalse hnonzero => exact checkedMulLimbs_bind_ceiling ha (scale_lt_width t) hnonzero

end Sys2Proof.Machine

/-! PROOFS. Exceptions (60_exceptions.md): the frame of a command (R143, R144); which status each command
raises on which operands (R136 to R142), as one table over all commands; completion (R152). -/

namespace Sys2Proof.Machine

/-! ### The frame of a command (R143, R144) -/

/-- Recording an outcome changes what is read at `RES` and `STATUS` only (20_memory.md R26). -/
theorem readReg_finish (s : State) (o : Except Err Nat) {r : WindowReg} (hres : ∀ k, r ≠ .res k)
    (hstatus : r ≠ .status) : readReg (s.finish o) r = readReg s r := by
  cases r with
  | res k => exact absurd rfl (hres k)
  | status => exact absurd rfl hstatus
  | opa k | opb k => simp only [readReg, State.finish_opa, State.finish_opb]
  | cmd | id => rfl

/-- Recording an outcome changes the bytes of the window at `RES` and `STATUS` only (20_memory.md R28). -/
theorem windowByte_finish (s : State) (o : Except Err Nat) {k : Nat} (hres : k < 0x40 ∨ 0x58 ≤ k)
    (hstatus : k < 0x68 ∨ 0x70 ≤ k) : windowByte (s.finish o) k = windowByte s k := by
  unfold windowByte
  cases hk : regAt (k / 8 * 8) with
  | none => rfl
  | some r =>
    have hoffset := regAt_eq_some hk
    have hread : readReg (s.finish o) r = readReg s r := by
      refine readReg_finish s o ?_ ?_
      · rintro j rfl
        rw [regOffset] at hoffset
        omega
      · rintro rfl
        rw [regOffset] at hoffset
        omega
    rw [Option.bind_some, Option.bind_some, hread]

/-- Settles O34: every command records an outcome and does nothing else. -/
theorem commandsChangeOnlyResAndStatus : Obligations.CommandsChangeOnlyResAndStatus := by
  intro i s t hexec
  obtain ⟨o, ho⟩ := exec_finishes i s
  obtain rfl := Host.Outcome.next.inj (ho.symm.trans hexec)
  exact ⟨s.finish_opa o, s.finish_opb o, s.finish_pending o, s.finish_answer o,
    fun _ => windowByte_finish s o⟩

/-! ### The code tells the error (R135) -/

theorem Err.code_inj {e e' : Err} : e.code = e'.code ↔ e = e' := by
  cases e <;> cases e' <;> decide

/-- `STATUS.CODE` holds an error's code exactly when that error was recorded. -/
theorem State.finish_code_eq_iff (s : State) (o : Except Err Nat) (e : Err) :
    (s.finish o).code = e.code ↔ o = .error e := by
  cases o with
  | ok r => exact iff_of_false e.code_ne_zero.symm nofun
  | error e' => rw [State.finish_error, State.errWith_code, Err.code_inj, Except.error.injEq]

/-! ### Which error a rule raises -/

/-- A rule that only answers raises no error, whichever one `e'` a line of the table is about. -/
theorem ok_eq_error_iff {r : Nat} {e e' : Err} :
    (Except.ok r : Except Err Nat) = .error e ↔ e = e' ∧ False :=
  iff_of_false nofun And.right

/-- A rule that tests and then goes on raises the test's error, or what comes after. -/
theorem test_eq_error_iff {c : Prop} [Decidable c] {e e' : Err} {o : Except Err Nat} :
    (if c then .error e' else o) = .error e ↔ (e = e' ∧ c) ∨ (¬ c ∧ o = .error e) := by
  split
  · next hc => simp [hc, eq_comm]
  · next hc => simp [hc]

/-- A rule that tests and then answers raises the test's error only. -/
theorem check_eq_error_iff {c : Prop} [Decidable c] {e e' : Err} {r : Nat} :
    (if c then .error e' else .ok r) = Except.error e ↔ e = e' ∧ c := by
  simp [test_eq_error_iff]

theorem checkedPow_eq_error_iff (w : Width) (a n : Nat) (e : Err) :
    checkedPow w a n = .error e ↔ e = .overflow ∧ 2 ^ widthBits w ≤ a ^ n := by
  rw [checkedPow_eq_heldTo]
  exact check_eq_error_iff

theorem scaledAdd_eq_error_iff (t : STy) (a b : Nat) (e : Err) :
    scaledAdd t a b = .error e ↔ e = .overflow ∧ maxRaw t < a + b := by
  rw [scaledAdd_eq_inDomain]
  exact check_eq_error_iff

theorem scaledSub_eq_error_iff (t : STy) (a b : Nat) (e : Err) :
    scaledSub t a b = .error e ↔
      (e = .underflow ∧ a < b) ∨ (e = .overflow ∧ b ≤ a ∧ maxRaw t < a - b) := by
  rw [scaledSub_eq, test_eq_error_iff, inDomain, check_eq_error_iff, Nat.not_lt, and_left_comm]

theorem scaledMul_eq_error_iff (t : STy) (a b : Nat) (e : Err) :
    scaledMul t a b = .error e ↔
      e = .overflow ∧ (2 ^ widthBits (backing t) ≤ a * b ∨ maxRaw t < a * b / scale t) := by
  rw [scaledMul_eq_mulByRule]
  exact check_eq_error_iff

theorem scaledDiv_eq_error_iff (t : STy) (a b : Nat) (e : Err) :
    scaledDiv t a b = .error e ↔
      (e = .divisionByZero ∧ b = 0) ∨
      (e = .overflow ∧ b ≠ 0 ∧
        (2 ^ widthBits (backing t) ≤ a * scale t ∨ maxRaw t < a * scale t / b)) := by
  rw [scaledDiv_eq, test_eq_error_iff, inDomain, ← ite_or, check_eq_error_iff, and_left_comm]

/-- The power raises `Overflow` exactly where the while loop of R95 ends with it. -/
theorem scaledPow_eq_error_iff (t : STy) (a n : Nat) (e : Err) :
    scaledPow t a n = .error e ↔
      e = .overflow ∧
        SquaringRun (mulByRule (widthBits (backing t)) (scale t) (maxRaw t)) (scale t) a n
          (.error .overflow) := by
  have hrun := squaringRun_powFrom (scaledMul t) (scale t) a n
  rw [← scaledMul_eq_mulByRule]
  constructor
  · intro h
    obtain rfl := squaringRun_overflowOnly (scaledMul_overflowOnly t) hrun e h
    exact ⟨rfl, h ▸ hrun⟩
  · rintro ⟨rfl, h⟩
    exact powFrom_of_squaringRun h

theorem rateToDecimal_eq_error_iff (a : Nat) (e : Err) :
    rateToDecimal a = .error e ↔ e = .overflow ∧ maxRaw .d < a * bridge := by
  rw [rateToDecimal_eq_inDomain]
  exact check_eq_error_iff

/-! ### Which error a command raises: the table of R136 to R141 in the order of R142 -/

/-- The two-operand commands of width 128 (R141, 10_state.md R12). -/
def twoOperandNarrow : List Instr :=
  [.wadd128, .wsub128, .wmul128, .wdiv128, .wpow128, .wshl128, .wshr128, .wcmp128, .saddR, .ssubR, .smulR,
    .sdivR, .spowR]

/-- The one-operand commands of width 128 (R141, 10_state.md R12). -/
def oneOperandNarrow : List Instr := [.sfromintR, .stofloorR, .stoceilR, .scvtR2D]

/-- The commands that subtract, those of width 192 first (R137). -/
def subtractions : List Instr := [.wsub192, .ssubD] ++ [.wsub128, .ssubR]

/-- The commands that divide by `OPB`, those of width 192 first (R138). -/
def divisions : List Instr := [.wdiv192, .sdivD] ++ [.wdiv128, .sdivR]

/-- The condition of R141 on `a = OPA` and `b = OPB`. -/
def WideOperand (i : Instr) (a b : Nat) : Prop :=
  (i ∈ twoOperandNarrow ∧ (2 ^ 128 ≤ a ∨ 2 ^ 128 ≤ b)) ∨ (i ∈ oneOperandNarrow ∧ 2 ^ 128 ≤ a)

/-- The conditions of R136 to R139: what a command's rule raises on `a = OPA` and `b = OPB` once the width
check is passed. -/
def RuleRaises (i : Instr) (a b : Nat) : Err → Prop
  | .overflow => OverflowCondition i a b
  | .underflow => i ∈ subtractions ∧ a < b
  | .divisionByZero => i ∈ divisions ∧ b = 0
  | .rangeError => i = .scvtD2R ∧ 255 * 10 ^ 18 < a
  | .formatError | .illegalCommand => False

/-- What a command raises: `FormatError` comes before every error of the rule (R142). -/
def Raises (i : Instr) (a b : Nat) (e : Err) : Prop :=
  (e = .formatError ∧ WideOperand i a b) ∨ (¬ WideOperand i a b ∧ RuleRaises i a b e)

/-- The outcome `x` of a command on `s` is a next state that records the errors of the table and no others. -/
def EndsByTable (i : Instr) (s : State) (x : Host.Outcome State Fault Refusal) : Prop :=
  ∃ o, x = .next (s.finish o) ∧ ∀ e, o = .error e ↔ Raises i s.opa.toNat s.opb.toNat e

/-- The width check of a two-operand command, then its rule. -/
theorem binaryCommand_eq (w : Width) (f : Nat → Nat → Except Err Nat) (s : State) :
    binaryCommand w f s = .next (s.finish (
      if w = .w128 ∧ (2 ^ 128 ≤ s.opa.toNat ∨ 2 ^ 128 ≤ s.opb.toNat) then .error .formatError
      else f s.opa.toNat s.opb.toNat)) := by
  cases w with
  | w192 => rw [binaryCommand_w192, if_neg (by simp)]
  | w128 => simp only [binaryCommand_w128, true_and, State.finish_test, State.raise_eq]

/-- The width check of a one-operand command, then its rule. -/
theorem unaryCommand_eq (w : Width) (f : Nat → Except Err Nat) (s : State) :
    unaryCommand w f s = .next (s.finish (
      if w = .w128 ∧ 2 ^ 128 ≤ s.opa.toNat then .error .formatError else f s.opa.toNat)) := by
  cases w with
  | w192 => rw [unaryCommand_w192, if_neg (by simp)]
  | w128 => simp only [unaryCommand_w128, true_and, State.finish_test, State.raise_eq]

/-- A width check followed by a rule ends by the table where each of the two does. -/
theorem endsByTable_of_check {i : Instr} {s : State} {c : Prop} [Decidable c] {o : Except Err Nat}
    (hcheck : c ↔ WideOperand i s.opa.toNat s.opb.toNat)
    (hrule : ∀ e, o = .error e ↔ RuleRaises i s.opa.toNat s.opb.toNat e) :
    EndsByTable i s (.next (s.finish (if c then .error .formatError else o))) :=
  ⟨_, rfl, fun e => by rw [test_eq_error_iff, hcheck, hrule, Raises]⟩

theorem endsByTable_binary {i : Instr} {w : Width} {f : Nat → Nat → Except Err Nat} {s : State}
    (hwidth : w = .w128 ↔ i ∈ twoOperandNarrow) (hone : i ∉ oneOperandNarrow)
    (hrule : ∀ e, f s.opa.toNat s.opb.toNat = .error e ↔ RuleRaises i s.opa.toNat s.opb.toNat e) :
    EndsByTable i s (binaryCommand w f s) := by
  rw [binaryCommand_eq]
  exact endsByTable_of_check (by simp only [WideOperand, hwidth, hone, false_and, or_false]) hrule

theorem endsByTable_unary {i : Instr} {w : Width} {f : Nat → Except Err Nat} {s : State}
    (hwidth : w = .w128 ↔ i ∈ oneOperandNarrow) (htwo : i ∉ twoOperandNarrow)
    (hrule : ∀ e, f s.opa.toNat = .error e ↔ RuleRaises i s.opa.toNat s.opb.toNat e) :
    EndsByTable i s (unaryCommand w f s) := by
  rw [unaryCommand_eq]
  exact endsByTable_of_check (by simp only [WideOperand, hwidth, htwo, false_and, false_or]) hrule

/-- The commands whose rules raise an error besides `Overflow` (R137 to R139). -/
def otherErrors : List Instr := .scvtD2R :: subtractions ++ divisions

/-- Every other command's rule raises `Overflow` by its line of R136 and nothing else. -/
theorem ruleRaises_iff_overflow {i : Instr} (hi : i ∉ otherErrors) (a b : Nat) (e : Err) :
    RuleRaises i a b e ↔ e = .overflow ∧ OverflowCondition i a b := by
  simp only [otherErrors, List.cons_append, List.mem_cons, List.mem_append, not_or] at hi
  obtain ⟨hrange, hsub, hdiv⟩ := hi
  cases e <;> simp [RuleRaises, hrange, hsub, hdiv]

/-- A rule that raises `Overflow` only, with its condition in the words of the table. -/
theorem ruleRaises_of_overflow {i : Instr} (hi : i ∉ otherErrors) {a b : Nat} {o : Except Err Nat}
    (h : ∀ e, o = .error e ↔ e = .overflow ∧ OverflowCondition i a b) (e : Err) :
    o = .error e ↔ RuleRaises i a b e :=
  (h e).trans (ruleRaises_iff_overflow hi a b e).symm

theorem not_division_of_subtraction : ∀ i ∈ subtractions, i ∉ divisions ∧ i ≠ .scvtD2R := by decide

theorem not_subtraction_of_division : ∀ i ∈ divisions, i ∉ subtractions ∧ i ≠ .scvtD2R := by decide

/-- A subtraction's rule raises `Underflow` (R137), and `Overflow` by its line of R136. -/
theorem ruleRaises_of_subtraction {i : Instr} (hi : i ∈ subtractions) {a b : Nat} {o : Except Err Nat}
    (h : ∀ e, o = .error e ↔ (e = .underflow ∧ a < b) ∨ (e = .overflow ∧ OverflowCondition i a b))
    (e : Err) : o = .error e ↔ RuleRaises i a b e := by
  obtain ⟨hdiv, hrange⟩ := not_division_of_subtraction i hi
  rw [h]
  cases e <;> simp [RuleRaises, hi, hdiv, hrange]

/-- A division's rule raises `DivisionByZero` (R138), and `Overflow` by its line of R136. -/
theorem ruleRaises_of_division {i : Instr} (hi : i ∈ divisions) {a b : Nat} {o : Except Err Nat}
    (h : ∀ e, o = .error e ↔ (e = .divisionByZero ∧ b = 0) ∨ (e = .overflow ∧ OverflowCondition i a b))
    (e : Err) : o = .error e ↔ RuleRaises i a b e := by
  obtain ⟨hsub, hrange⟩ := not_subtraction_of_division i hi
  rw [h]
  cases e <;> simp [RuleRaises, hi, hsub, hrange]

/-- The rule of `scvt.d2r` raises `RangeError` and nothing else (R139). -/
theorem decimalToRate_eq_error_iff (a b : Nat) (e : Err) :
    decimalToRate a = .error e ↔ RuleRaises .scvtD2R a b e := by
  have hsub : Instr.scvtD2R ∉ subtractions := by decide
  have hdiv : Instr.scvtD2R ∉ divisions := by decide
  rw [decimalToRate_eq, check_eq_error_iff]
  cases e <;> simp [RuleRaises, OverflowCondition, hsub, hdiv]

/-- Every command ends by the table (R136 to R142). -/
theorem exec_endsByTable (i : Instr) (s : State) : EndsByTable i s (exec i s) := by
  cases i with
  | wadd192 | wadd128 | wmul192 | wmul128 =>
    exact endsByTable_binary (by decide) (by decide)
      (ruleRaises_of_overflow (by decide) fun _ => check_eq_error_iff)
  | wpow192 | wpow128 =>
    exact endsByTable_binary (by decide) (by decide)
      (ruleRaises_of_overflow (by decide) (checkedPow_eq_error_iff _ _ _))
  | wshl192 | wshr192 | wcmp192 | wshl128 | wshr128 | wcmp128 =>
    exact endsByTable_binary (by decide) (by decide)
      (ruleRaises_of_overflow (by decide) fun _ => ok_eq_error_iff)
  | saddD | saddR =>
    exact endsByTable_binary (by decide) (by decide)
      (ruleRaises_of_overflow (by decide) (scaledAdd_eq_error_iff _ _ _))
  | smulD | smulR =>
    exact endsByTable_binary (by decide) (by decide)
      (ruleRaises_of_overflow (by decide) (scaledMul_eq_error_iff _ _ _))
  | spowD | spowR =>
    exact endsByTable_binary (by decide) (by decide)
      (ruleRaises_of_overflow (by decide) (scaledPow_eq_error_iff _ _ _))
  | sfromintD | sfromintR =>
    exact endsByTable_unary (by decide) (by decide)
      (ruleRaises_of_overflow (by decide) fun _ => check_eq_error_iff)
  | stofloorD | stoceilD | stofloorR | stoceilR =>
    exact endsByTable_unary (by decide) (by decide)
      (ruleRaises_of_overflow (by decide) fun _ => ok_eq_error_iff)
  | scvtR2D =>
    exact endsByTable_unary (by decide) (by decide)
      (ruleRaises_of_overflow (by decide) (rateToDecimal_eq_error_iff _))
  | wsub192 | wsub128 =>
    exact endsByTable_binary (by decide) (by decide)
      (ruleRaises_of_subtraction (by decide) fun _ => check_eq_error_iff.trans (or_iff_left And.right).symm)
  | ssubD | ssubR =>
    exact endsByTable_binary (by decide) (by decide)
      (ruleRaises_of_subtraction (by decide) (scaledSub_eq_error_iff _ _ _))
  | wdiv192 | wdiv128 =>
    exact endsByTable_binary (by decide) (by decide)
      (ruleRaises_of_division (by decide) fun _ => check_eq_error_iff.trans (or_iff_left And.right).symm)
  | sdivD | sdivR =>
    exact endsByTable_binary (by decide) (by decide)
      (ruleRaises_of_division (by decide) (scaledDiv_eq_error_iff _ _ _))
  | scvtD2R => exact endsByTable_unary (by decide) (by decide) (decimalToRate_eq_error_iff _ _)

/-! ### Where each code is written (R135) -/

/-- Every command answers a next state, and its code is that of the error the table gives. -/
theorem exec_code (i : Instr) (s : State) :
    ∃ t : State, exec i s = .next t ∧ ∀ e : Err, t.code = e.code ↔ Raises i s.opa.toNat s.opb.toNat e := by
  obtain ⟨o, hexec, hraises⟩ := exec_endsByTable i s
  exact ⟨s.finish o, hexec, fun e => (s.finish_code_eq_iff o e).trans (hraises e)⟩

theorem raises_formatError_iff (i : Instr) (a b : Nat) : Raises i a b .formatError ↔ WideOperand i a b := by
  simp [Raises, RuleRaises]

/-- An error of the rule is raised where the width check does not come first (R142). -/
theorem raises_iff_of_ne {e : Err} (he : e ≠ .formatError) (i : Instr) (a b : Nat) :
    Raises i a b e ↔ RuleRaises i a b e ∧ ¬ WideOperand i a b := by
  simp [Raises, he, and_comm]

theorem raises_overflow_iff (i : Instr) (a b : Nat) :
    Raises i a b .overflow ↔ OverflowCondition i a b ∧
      ¬ (i ∈ twoOperandNarrow ∧ (2 ^ 128 ≤ a ∨ 2 ^ 128 ≤ b)) ∧ ¬ (i ∈ oneOperandNarrow ∧ 2 ^ 128 ≤ a) := by
  rw [raises_iff_of_ne (by decide), WideOperand, not_or]
  rfl

/-- Which commands of a list pass the width check: those of width 192 always, the two-operand commands of
width 128 where both operands have it (R141). -/
theorem passes_width_check_iff {wide narrow : List Instr}
    (hwide : ∀ i ∈ wide, i ∉ twoOperandNarrow ∧ i ∉ oneOperandNarrow)
    (hnarrow : ∀ i ∈ narrow, i ∈ twoOperandNarrow ∧ i ∉ oneOperandNarrow) (i : Instr) (a b : Nat) :
    i ∈ wide ++ narrow ∧ ¬ WideOperand i a b ↔
      i ∈ wide ∨ (i ∈ narrow ∧ a < 2 ^ 128 ∧ b < 2 ^ 128) := by
  rw [List.mem_append, or_and_right]
  refine or_congr (and_iff_left_of_imp fun hi => ?_) (and_congr_right fun hi => ?_)
  · obtain ⟨htwo, hone⟩ := hwide i hi
    simp only [WideOperand, htwo, hone, false_and, or_self, not_false_iff]
  · obtain ⟨htwo, hone⟩ := hnarrow i hi
    simp only [WideOperand, htwo, hone, true_and, false_and, or_false, not_or, Nat.not_le]

/-- Where the subtrahend is the greater, its own width decides. -/
theorem raises_underflow_iff (i : Instr) (a b : Nat) :
    Raises i a b .underflow ↔
      a < b ∧ (i ∈ [.wsub192, .ssubD] ∨ (i ∈ [.wsub128, .ssubR] ∧ b < 2 ^ 128)) := by
  rw [raises_iff_of_ne (by decide), RuleRaises, and_right_comm, subtractions,
    passes_width_check_iff (by decide) (by decide), and_comm]
  exact and_congr_right fun hlt => or_congr_right (and_congr_right fun _ => by omega)

/-- Where the divisor is zero, the dividend's width decides. -/
theorem raises_divisionByZero_iff (i : Instr) (a b : Nat) :
    Raises i a b .divisionByZero ↔
      b = 0 ∧ (i ∈ [.wdiv192, .sdivD] ∨ (i ∈ [.wdiv128, .sdivR] ∧ a < 2 ^ 128)) := by
  rw [raises_iff_of_ne (by decide), RuleRaises, and_right_comm, divisions,
    passes_width_check_iff (by decide) (by decide), and_comm]
  exact and_congr_right fun hzero => or_congr_right (and_congr_right fun _ => by omega)

/-- No command of width 128 raises `RangeError`. -/
theorem raises_rangeError_iff (i : Instr) (a b : Nat) :
    Raises i a b .rangeError ↔ i = .scvtD2R ∧ 255 * 10 ^ 18 < a := by
  rw [raises_iff_of_ne (by decide), RuleRaises, and_iff_left_iff_imp]
  rintro ⟨rfl, -⟩
  simp [WideOperand, twoOperandNarrow, oneOperandNarrow]

/-- Settles O35, by the table's entry for code 5. -/
theorem formatErrorExactlyOnWideOperands : Obligations.FormatErrorExactlyOnWideOperands := by
  intro i s
  obtain ⟨t, hexec, hcode⟩ := exec_code i s
  exact ⟨t, hexec, (hcode .formatError).trans (raises_formatError_iff i _ _)⟩

/-- Settles O36, by the table's entry for code 1. -/
theorem overflowExactlyByTheTable : Obligations.OverflowExactlyByTheTable := by
  intro i s
  obtain ⟨t, hexec, hcode⟩ := exec_code i s
  exact ⟨t, hexec, (hcode .overflow).trans (raises_overflow_iff i _ _)⟩

/-- Settles O37, by the table's entries for codes 2 and 3. -/
theorem underflowAndDivisionByZeroExactly : Obligations.UnderflowAndDivisionByZeroExactly := by
  intro i s
  obtain ⟨t, hexec, hcode⟩ := exec_code i s
  exact ⟨t, hexec, (hcode .underflow).trans (raises_underflow_iff i _ _),
    (hcode .divisionByZero).trans (raises_divisionByZero_iff i _ _)⟩

/-- Settles O38, by the table's entry for code 4. -/
theorem rangeErrorOnlyByDecimalToRate : Obligations.RangeErrorOnlyByDecimalToRate := by
  intro i s
  obtain ⟨t, hexec, hcode⟩ := exec_code i s
  exact ⟨t, hexec, (hcode .rangeError).trans (raises_rangeError_iff i _ _)⟩

/-! ### Completion (R152) -/

theorem step_next (s : State) : ∃ t : State, step s = .next t := by
  obtain ⟨-, h⟩ | ⟨_, -, h⟩ | ⟨_, _, _, -, h⟩ | ⟨_, _, _, _, -, h⟩ | ⟨_, _, _, _, -, h⟩ | ⟨_, _, _, -, h⟩ :=
    step_cases s <;> exact ⟨_, h⟩

/-- Only a word that is no command raises `IllegalCommand` (30_encoding.md R49). -/
theorem not_raises_illegalCommand (i : Instr) (a b : Nat) : ¬ Raises i a b .illegalCommand := by
  simp [Raises, RuleRaises]

theorem Err.code_le_five {e : Err} (he : e ≠ .illegalCommand) : e.code.toNat ≤ 5 := by
  cases e with
  | illegalCommand => exact absurd rfl he
  | _ => decide

theorem exec_code_le_five (i : Instr) (s : State) :
    ∃ t : State, exec i s = .next t ∧ t.code.toNat ≤ 5 := by
  obtain ⟨o, hexec, hraises⟩ := exec_endsByTable i s
  refine ⟨s.finish o, hexec, ?_⟩
  cases o with
  | ok r => exact Nat.zero_le 5
  | error e =>
    refine Err.code_le_five ?_
    rintro rfl
    exact not_raises_illegalCommand i _ _ ((hraises .illegalCommand).mp rfl)

theorem execute_code_le_six (w : CmdWord) (s : State) :
    ∃ t : State, execute w s = .next t ∧ t.code.toNat ≤ 6 := by
  obtain ⟨o, hexec⟩ := execute_finishes w s
  refine ⟨s.finish o, hexec, ?_⟩
  cases o with
  | ok r => exact Nat.zero_le 6
  | error e => exact e.code_range.2

/-- Settles O39: a step, a command and a command word each answer a next state. -/
theorem everyStepAndEveryCommandCompletes : Obligations.EveryStepAndEveryCommandCompletes :=
  ⟨step_next, exec_code_le_five, execute_code_le_six⟩

end Sys2Proof.Machine

/-! PROOFS. Reset and the idle step (70_reset_and_hazards.md): the reset event (R155) from whatever state
(R162), and a step with nothing pending. -/

namespace Sys2Proof.Machine

/-- The reset event's effect, every register at its value of 10_state.md R20: of the state before, only
what the host has still to send is left (log 6). -/
theorem State.applyReset_eq (s : State) :
    s.applyReset =
      { opa := 0, opb := 0, res := 0, code := 0, pending := s.pending, answer := .idle } := rfl

/-- A step whose oldest event is the reset applies it, with the later events still pending. -/
theorem step_of_reset {s : State} {rest : List Event} (h : s.pending = .reset :: rest) :
    step s = .next (s.setPending rest).applyReset := by
  rw [step_of_pending h, handleEvent]

/-- DWU starts nothing on its own (10_state.md R13; log 5). -/
theorem step_of_idle {s : State} (h : s.pending = []) : step s = .next s := by
  simp only [step, serveNext, h]

/-- Settles O6: the step applies the reset, which keeps only the events behind it; with none pending it
serves nothing. -/
theorem resetEventAndIdleStep : Obligations.ResetEventAndIdleStep := by
  refine ⟨fun s rest h => ?_, fun _ => step_of_idle⟩
  rw [step_of_reset h, State.applyReset_eq, State.setPending_pending]

end Sys2Proof.Machine
